-- ==== Sys2Proof/Word.lean ====
section
/-! DEFINITION. The two word types of the block: a stream byte and a stream address (00_scope.md R7). -/

namespace Sys2Proof

/-- A byte of the instruction stream: 8 bits, unsigned unless sign-extended (R7, R10). -/
abbrev Byte := BitVec 8

/-- An address of the instruction stream: 24 bits, arithmetic mod 2^24 (R7, R33; decision D3). -/
abbrev Addr := BitVec 24

end Sys2Proof
end

