-- ==== Sys2Proof/Config.lean ====
section
/-! DEFINITION. The named parameters of the block (00_scope.md R9). They are fixed for a run and are held in
`State.params` as plain data, so that every statement about all states is a statement about every parameter value. -/

namespace Sys2Proof

/-- `DDCB_POLICY` (R9 (1); 42_cb_page.md R362, R375). -/
inductive DdcbPolicy where
  | indexed
  | ignoreIndex
  deriving DecidableEq, Repr

/-- `WIDTH_POLICY` (R9 (2); 30_encoding.md R119). -/
inductive WidthPolicy where
  | docOr
  | suffixOverrides
  deriving DecidableEq, Repr

/-- `CB_Y7_MNEMONIC` (R9 (4); 42_cb_page.md R358). -/
inductive CbY7Mnemonic where
  | srl
  | srr
  deriving DecidableEq, Repr

/-- A range of stream addresses, both ends included. -/
structure AddrRange where
  first : Addr
  last  : Addr
  deriving DecidableEq, Repr

/-- The four parameters. `READABLE : Addr24 → Bool` (R9 (3), R71) is given by the ranges where it is false, since
State holds no function; every `READABLE` is some such list (assumption log 8). -/
structure Params where
  ddcbPolicy   : DdcbPolicy
  widthPolicy  : WidthPolicy
  cbY7Mnemonic : CbY7Mnemonic
  unreadable   : List AddrRange
  deriving DecidableEq, Repr

/-- The defaults of R9: `Indexed`, `DocOr`, everywhere readable, `SRL`. -/
def Params.default : Params :=
  { ddcbPolicy := .indexed, widthPolicy := .docOr, cbY7Mnemonic := .srl, unreadable := [] }

end Sys2Proof
end

