-- ==== Sys2Proof/Machine/Memory.lean ====
section
/-! DEFINITION. The instruction stream as data: (address, byte) pairs in one canonical form (20_memory.md R70). The block
only reads it; `memWrite` is the host's, before a run. -/

namespace Sys2Proof.Machine

/-- The stream's bytes, listed by strictly rising address; an unlisted address reads as `unlistedByte`. -/
abbrev Memory := List Host.Cell

/-- What an address the host has not written reads as. DESIGN CHOICE, unsafe (assumption log 1): the stream is the caller's
and the spec gives no contents; 95_test_vectors.md section 4 lays its programs out over 0x00. -/
def unlistedByte : Byte := 0

/-- The byte at an address. -/
def memRead (m : Memory) (a : Nat) : Byte :=
  match m with
  | [] => unlistedByte
  | (k, v) :: rest => if k = a then v else memRead rest a

/-- Set the byte at an address, keeping the canonical form. -/
def memWrite (m : Memory) (a : Nat) (v : Byte) : Memory :=
  match m with
  | [] => if v = unlistedByte then [] else [(a, v)]
  | (k, x) :: rest =>
    if a < k then (if v = unlistedByte then (k, x) :: rest else (a, v) :: (k, x) :: rest)
    else if a = k then (if v = unlistedByte then rest else (a, v) :: rest)
    else (k, x) :: memWrite rest a v

/-- Addresses from `lo` on, strictly rising, below 2^24, and no entry that reads as an unlisted address does. -/
def wfFrom (lo : Nat) (m : Memory) : Bool :=
  match m with
  | [] => true
  | (k, v) :: rest => decide (lo ≤ k) && decide (k < 2 ^ 24) && v != unlistedByte && wfFrom (k + 1) rest

/-- The canonical form. -/
def Memory.wf (m : Memory) : Bool := wfFrom 0 m

end Sys2Proof.Machine
end

