-- ==== Sys2Proof/Syntax/Fields.lean ====
section
/-! DEFINITION. The operand fields an opcode byte selects, as named types, and the contexts a byte can be read in
(30_encoding.md R101 to R118). Their texts and their bit patterns are in Machine/Text.lean and Decode.lean. -/

namespace Sys2Proof

/-- `r[i]`, the 8-bit register operand (R101). `mhl` is entry 6, the memory operand `(HL)`. -/
inductive Reg8 where
  | b | c | d | e | h | l | mhl | a
  deriving DecidableEq, Repr

/-- `rp[p]` (R102). In the index-register rows entry 2 (`hl`) names the index register (41_base_indexed.md R303). -/
inductive RegPair where
  | bc | de | hl | sp
  deriving DecidableEq, Repr

/-- `rp2[p]`, the pair of PUSH and POP (R103). -/
inductive StackPair where
  | bc | de | hl | af
  deriving DecidableEq, Repr

/-- `rp3[p]` and `rp3Y[p]` (R108): entry 3 is the index register that the instruction names. -/
inductive IndexPair where
  | bc | de | hl | index
  deriving DecidableEq, Repr

/-- `cc[y]`, the condition code (R104). -/
inductive Cond where
  | nz | z | nc | c | po | pe | p | m
  deriving DecidableEq, Repr

/-- `alu[y]`, the accumulator operation (R105). -/
inductive Alu where
  | add | adc | sub | sbc | and | xor | or | cp
  deriving DecidableEq, Repr

/-- An index register (R109). -/
inductive IndexReg where
  | ix | iy
  deriving DecidableEq, Repr

/-- The half of an index register that replaces `H` or `L` (R109, R300 (5)). -/
inductive Half where
  | high | low
  deriving DecidableEq, Repr

/-- The register set (10_state.md R32): none of the index prefixes, DD, or FD. -/
inductive RegSet where
  | hl | ix | iy
  deriving DecidableEq, Repr

/-- The addressing-mode suffix (10_state.md R31, R107). -/
inductive Suffix where
  | none | sis | lis | sil | lil
  deriving DecidableEq, Repr

/-- Where a byte that selects an instruction is read (R110, R118): in base-page position, with the prefix classes taken
so far; as the CB opcode; as the opcode of an indexed CB; as the ED opcode. -/
inductive Ctx where
  | base (msTaken : Bool) (rs : RegSet)
  | cb
  | indexCb (x : IndexReg)
  | ed
  deriving DecidableEq, Repr

/-- The table (the "format" of spec/opcode_table.json) a row of the opcode table stands in. -/
inductive Home where
  | modeSelect | indexPrefix | cbPrefix | edPrefix | prefixOnly
  | base | baseIndexed (x : IndexReg) | cb | indexCb (x : IndexReg) | ed
  deriving DecidableEq, Repr

/-- The operand recipes that occur (R120): what a form fetches after its opcode byte, in order. -/
inductive Recipe where
  | none | n | d | e | w | dn
  deriving DecidableEq, Repr

end Sys2Proof
end

