-- ==== Sys2Proof/Machine/State.lean ====
section
/-! DEFINITION. The state of the block (10_state.md), the reasons a step of the model can stop, and the power-on state
(70_reset_and_hazards.md R700). -/

namespace Sys2Proof.Machine

/-- The execution width (R30): CLI flag 0 is `z80Mode`, 1 is `adlMode` (R8). -/
inductive ExecWidth where
  | z80Mode
  | adlMode
  deriving DecidableEq, Repr

/-- The states of the prefix state machine (R36, R112). -/
inductive Phase where
  | noPrefix | afterModeSelect | afterDD | afterFD | afterCB | afterED | afterIndexCB | operands | complete
  deriving DecidableEq, Repr

/-- The page the opcode byte was read on (R38). -/
inductive Page where
  | base | cb | indexCb | ed
  deriving DecidableEq, Repr

/-- The outcome of a completed instruction (R40). -/
inductive Kind where
  | full | unrepresented | prefixOnly
  deriving DecidableEq, Repr

/-- The sticky fault status (R41): none, or `StreamFault(a)` (60_exceptions.md R601). -/
inductive FaultStatus where
  | none
  | streamFault (a : Addr)
  deriving DecidableEq, Repr

/-- The run state (R42). -/
inductive RunState where
  | idle | running | done | faulted
  deriving DecidableEq, Repr

/-- The output record (R40). `form` is the rule number of the opcode-table row, absent for a prefix-only instruction; an
operand field is absent where the form does not use it. -/
structure DecodedInstruction where
  startAddress : Addr
  byteLength   : Nat
  rawBytes     : List Byte
  kind         : Kind
  form         : Option Nat
  op           : Option Byte
  page         : Option Page
  d            : Option Int
  n            : Option Byte
  w            : Option Addr
  e            : Option Addr
  suffix       : Suffix
  regSet       : RegSet
  mnemonicText : String
  deriving DecidableEq, Repr

/-- What the host can ask for (60_exceptions.md R615 (1)). The numbers are as the command line gives them, so that inputs
outside their types can be refused (70_reset_and_hazards.md R703, decision D32); a missing width flag is the default 1. -/
inductive HostEvent where
  | start (startAddress : Nat) (count : Int) (widthFlag : Option Nat)
  | configure (params : Params)
  | setStream (a : Addr) (b : Byte)
  deriving DecidableEq, Repr

/-- The state of one decoder block and of what its host hands it. -/
structure State where
  /-- The instruction stream (20_memory.md R70). -/
  stream       : Memory
  /-- The named parameters (00_scope.md R9). -/
  params       : Params
  /-- R30. -/
  execWidth    : ExecWidth
  /-- R31. -/
  suffix       : Suffix
  /-- R32. -/
  regSet       : RegSet
  /-- R33. -/
  cursor       : Addr
  /-- R34. -/
  startAddress : Addr
  /-- R35: the accepted bytes of the current instruction, in stream order; `byteLength` is its length. -/
  rawBytes     : List Byte
  /-- R36. -/
  phase        : Phase
  /-- R38: the opcode byte. `none` is the latch's own "no value" at the start of every instruction (R702). -/
  op           : Option Byte
  /-- R38: the page. -/
  page         : Option Page
  /-- R38: the index displacement. -/
  d            : Option Int
  /-- R38: the byte immediate or port number. -/
  n            : Option Byte
  /-- R38: the word operand. -/
  w            : Option Addr
  /-- R38: the relative-branch target. -/
  e            : Option Addr
  /-- R39. -/
  remaining    : Int
  /-- R40, R47 (d): the record that is ready, if one is. -/
  output       : Option DecodedInstruction
  /-- R41. -/
  fault        : FaultStatus
  /-- R42. -/
  runState     : RunState
  /-- The model's own: the records the host has received in this run, oldest first (60_exceptions.md R602 (c), R613,
  R615 (2)); the block never reads it (assumption log 5). -/
  emitted      : List DecodedInstruction
  /-- The model's own: what the host has asked for and the block has not yet taken, oldest first (assumption log 6). -/
  inbox        : List HostEvent
  deriving DecidableEq, Repr

/-- Why the model stops. Neither is raised by a step from a state that meets `State.Inv`. A failed stream read is no stop of
the model but a state (`FaultStatus.streamFault`, R602); a host's read before the first start is a fault the host is
answered (`hostRead`), and no stop of the block either. -/
inductive Fault where
  /-- An operand latch was read before it was written in this instruction: it "holds no value" then (R38), and no run does it,
  since the latches are "written before they are read" (70_reset_and_hazards.md R702). Raised by `complete` and
  `State.nextInstr`, in states that do not meet `State.Inv`. Safe: the model stops. -/
  | latchNotWritten
  /-- A row of R301 was applied to a byte that is no base opcode (a mode-select or prefix byte), which the classifier never
  does. Safe: the model stops. -/
  | noForm
  deriving DecidableEq, Repr

/-- Requests of the host that no rule lets it make. -/
inductive Refusal where
  /-- An instruction with no meaning yet: raised by no arm of `exec`. Safe. -/
  | notModelled (mnemonic : String)
  /-- A start while a run is active (60_exceptions.md R605; decision D26; 93_implementation_defined.md I4): raised by
  `serveHost`. Safe: the model stops. -/
  | startWhileRunning
  /-- A change of the stream during a run (20_memory.md R82; 70_reset_and_hazards.md R706; I3): raised by `serveHost`. Safe:
  the model stops. -/
  | streamChangedDuringRun
  /-- A change of the parameters during a run, for which they are fixed (70_reset_and_hazards.md R703 (2)); that it is refused is
  the model's (DESIGN CHOICE, assumption log 6). Raised by `serveHost`. Safe: the model
  stops. -/
  | paramsChangedDuringRun
  /-- Start inputs outside their types (60_exceptions.md R603; 70_reset_and_hazards.md R703; I5): raised by `serveHost`. Safe:
  the model stops. -/
  | inputOutOfType
  deriving DecidableEq, Repr

/-- Power-on (70_reset_and_hazards.md R700): `runState = Idle`. The spec gives no other register a value; the values here are
the model's (DESIGN CHOICE, unsafe, assumption log 2), and no step reads one before a start: a host's read faults (`hostRead`). -/
def State.reset : State :=
  { stream := [], params := Params.default, execWidth := .adlMode, suffix := .none, regSet := .hl, cursor := 0,
    startAddress := 0, rawBytes := [], phase := .noPrefix, op := none, page := none, d := none, n := none, w := none,
    e := none, remaining := 0, output := none, fault := .none, runState := .idle, emitted := [], inbox := [] }

end Sys2Proof.Machine
end

