-- ==== Sys2Proof/Machine/Flags.lean ====
section
/-! DEFINITION. Derived status of the block. It has no condition-code register and no instruction sets a flag (10_state.md
R45); the only flags the spec names are read off `suffix`, `regSet` and `phase` (R36, R37). -/

namespace Sys2Proof.Machine

/-- `byteLength` (R35): it counts exactly the accepted bytes of the current instruction. -/
def State.byteLength (s : State) : Nat := s.rawBytes.length

/-- `msSeen` (R37): a mode-select has been taken in this instruction. -/
def State.msSeen (s : State) : Bool := s.suffix != .none

/-- `idxSeen` (R37): an index prefix has been taken in this instruction. -/
def State.idxSeen (s : State) : Bool := s.regSet != .hl

/-- The source's `pendingPrefix` (R36). -/
def State.pendingPrefix (s : State) : Bool :=
  match s.phase with
  | .afterModeSelect | .afterDD | .afterFD | .afterCB | .afterED | .afterIndexCB => true
  | .noPrefix | .operands | .complete => false

end Sys2Proof.Machine
end

