-- ==== Sys2Proof/Syntax.lean ====
section
/-! DEFINITION. The instructions: one constructor per row of spec/opcode_table.json, in the table's order. A constructor is
the spec's *form*, the row that one byte selects in its context, with the register, condition, bit and operation fields of
that byte. Immediates, displacements, targets and words are not fields of the byte: the form's recipe (30_encoding.md R120)
fetches them (assumption log 7). Each docstring gives the table's mnemonic and the rule. -/

namespace Sys2Proof

/-- A form of the opcode table (10_state.md R40, 30_encoding.md R111). -/
inductive Instr where
  -- Prefix rows (30_encoding.md)
  /-- `.SIS_.LIS_.SIL_.LIL__mode-select_prefix`, R114. -/
  | modeSelect (sfx : Suffix)
  /-- `DD___FD__index_prefix`, R115. -/
  | indexPrefix (x : IndexReg)
  /-- `CB__page_prefix`, R117. -/
  | cbPrefix
  /-- `ED__page_prefix`, R116. -/
  | edPrefix
  /-- `prefix-only_instruction`, R113. -/
  | prefixOnly
  -- Base page (40_base_page.md)
  /-- `NOP`, R200. -/
  | nop
  /-- `LD_rr_nn`, R205. -/
  | ldRrNn (rr : RegPair)
  /-- `LD__BC__A`, R207. -/
  | ldIndBcA
  /-- `INC_rr`, R215. -/
  | incRr (rr : RegPair)
  /-- `INC_r`, R217. -/
  | incR (r : Reg8)
  /-- `DEC_r`, R218. -/
  | decR (r : Reg8)
  /-- `LD_r_n`, R219. -/
  | ldRN (r : Reg8)
  /-- `RLCA`, R220. -/
  | rlca
  /-- `EX_AF_AF`, R201. -/
  | exAfAf
  /-- `ADD_HL_rr`, R206. -/
  | addHlRr (rr : RegPair)
  /-- `LD_A__BC`, R211. -/
  | ldAIndBc
  /-- `DEC_rr`, R216. -/
  | decRr (rr : RegPair)
  /-- `RRCA`, R221. -/
  | rrca
  /-- `DJNZ_e`, R202. -/
  | djnz
  /-- `LD__DE__A`, R208. -/
  | ldIndDeA
  /-- `RLA`, R222. -/
  | rla
  /-- `JR_e`, R203. -/
  | jr
  /-- `LD_A__DE`, R212. -/
  | ldAIndDe
  /-- `RRA`, R223. -/
  | rra
  /-- `JR_cc_e`, R204. -/
  | jrCc (cc : Cond)
  /-- `LD__nn__HL`, R209. -/
  | ldMemHl
  /-- `DAA`, R224. -/
  | daa
  /-- `LD_HL__nn`, R213. -/
  | ldHlMem
  /-- `CPL`, R225. -/
  | cpl
  /-- `LD__nn__A`, R210. -/
  | ldMemA
  /-- `SCF`, R226. -/
  | scf
  /-- `LD_A__nn`, R214. -/
  | ldAMem
  /-- `CCF`, R227. -/
  | ccf
  /-- `LD_r_r`, R229. -/
  | ldRR (dst : Reg8) (src : Reg8)
  /-- `HALT`, R228. -/
  | halt
  /-- `ADD_A_r`, R230. -/
  | addAR (r : Reg8)
  /-- `ADC_A_r`, R231. -/
  | adcAR (r : Reg8)
  /-- `SUB_A_r`, R232. -/
  | subAR (r : Reg8)
  /-- `SBC_A_r`, R233. -/
  | sbcAR (r : Reg8)
  /-- `AND_A_r`, R234. -/
  | andAR (r : Reg8)
  /-- `XOR_A_r`, R235. -/
  | xorAR (r : Reg8)
  /-- `OR_A_r`, R236. -/
  | orAR (r : Reg8)
  /-- `CP_A_r`, R237. -/
  | cpAR (r : Reg8)
  /-- `RET_cc`, R238. -/
  | retCc (cc : Cond)
  /-- `POP_qq`, R239. -/
  | popQq (qq : StackPair)
  /-- `JP_cc_nn`, R244. -/
  | jpCcNn (cc : Cond)
  /-- `JP_nn`, R245. -/
  | jpNn
  /-- `CALL_cc_nn`, R252. -/
  | callCcNn (cc : Cond)
  /-- `PUSH_qq`, R253. -/
  | pushQq (qq : StackPair)
  /-- `ADD_A_n`, R255. -/
  | addAN
  /-- `RST_p`, R263. -/
  | rst (t : Fin 8)
  /-- `RET`, R240. -/
  | ret
  /-- `CALL_nn`, R254. -/
  | callNn
  /-- `ADC_A_n`, R256. -/
  | adcAN
  /-- `OUT__n__A`, R246. -/
  | outNA
  /-- `SUB_A_n`, R257. -/
  | subAN
  /-- `EXX`, R241. -/
  | exx
  /-- `IN_A__n`, R247. -/
  | inAN
  /-- `SBC_A_n`, R258. -/
  | sbcAN
  /-- `EX__SP__HL`, R248. -/
  | exIndSpHl
  /-- `AND_A_n`, R259. -/
  | andAN
  /-- `JP__HL`, R242. -/
  | jpIndHl
  /-- `EX_DE_HL`, R249. -/
  | exDeHl
  /-- `XOR_A_n`, R260. -/
  | xorAN
  /-- `DI`, R250. -/
  | di
  /-- `OR_A_n`, R261. -/
  | orAN
  /-- `LD_SP_HL`, R243. -/
  | ldSpHl
  /-- `EI`, R251. -/
  | ei
  /-- `CP_A_n`, R262. -/
  | cpAN
  -- Base page under DD (41_base_indexed.md)
  /-- `base_instruction__IX_prefix_ignored`, R301. -/
  | baseIxIgnored (op : Byte)
  /-- `LD_rr__IX+d`, R324. -/
  | ldRrIxd (rr : RegPair)
  /-- `ADD_IX_rr`, R303. -/
  | addIxRr (rr : RegPair)
  /-- `LD__IX+d__rr`, R326. -/
  | ldIxdRr (rr : RegPair)
  /-- `LD_IX_nn`, R302. -/
  | ldIxNn
  /-- `LD__nn__IX`, R304. -/
  | ldMemIx
  /-- `INC_IX`, R306. -/
  | incIx
  /-- `INC_IXH_IXL`, R308. -/
  | incIxHalf (h : Half)
  /-- `DEC_IXH_IXL`, R309. -/
  | decIxHalf (h : Half)
  /-- `LD_IXH_IXL_n`, R312. -/
  | ldIxHalfN (h : Half)
  /-- `LD_IX__nn`, R305. -/
  | ldIxMem
  /-- `DEC_IX`, R307. -/
  | decIx
  /-- `LD_other__IX+d`, R328. -/
  | ldOtherIxd
  /-- `INC__IX+d`, R310. -/
  | incIxd
  /-- `DEC__IX+d`, R311. -/
  | decIxd
  /-- `LD__IX+d__n`, R313. -/
  | ldIxdN
  /-- `LD_IX__IX+d`, R325. -/
  | ldIxIxd
  /-- `LD__IX+d__other`, R329. -/
  | ldIxdOther
  /-- `LD__IX+d__IX`, R327. -/
  | ldIxdIx
  /-- `LD_with_IXH_IXL`, R316. -/
  | ldIxHalves (dst : Reg8) (src : Reg8)
  /-- `LD_r__IX+d`, R314. -/
  | ldRIxd (r : Reg8)
  /-- `LD__IX+d__r`, R315. -/
  | ldIxdR (r : Reg8)
  /-- `alu_A_IXH_IXL`, R318. -/
  | aluAIxHalf (f : Alu) (h : Half)
  /-- `alu_A__IX+d`, R317. -/
  | aluAIxd (f : Alu)
  /-- `POP_IX`, R319. -/
  | popIx
  /-- `EX__SP__IX`, R323. -/
  | exIndSpIx
  /-- `PUSH_IX`, R320. -/
  | pushIx
  /-- `JP__IX`, R321. -/
  | jpIndIx
  /-- `LD_SP_IX`, R322. -/
  | ldSpIx
  -- Base page under FD (41_base_indexed.md)
  /-- `base_instruction__IY_prefix_ignored`, R301. -/
  | baseIyIgnored (op : Byte)
  /-- `LD_rr__IY+d`, R324. -/
  | ldRrIyd (rr : RegPair)
  /-- `ADD_IY_rr`, R303. -/
  | addIyRr (rr : RegPair)
  /-- `LD__IY+d__rr`, R326. -/
  | ldIydRr (rr : RegPair)
  /-- `LD_IY_nn`, R302. -/
  | ldIyNn
  /-- `LD__nn__IY`, R304. -/
  | ldMemIy
  /-- `INC_IY`, R306. -/
  | incIy
  /-- `INC_IYH_IYL`, R308. -/
  | incIyHalf (h : Half)
  /-- `DEC_IYH_IYL`, R309. -/
  | decIyHalf (h : Half)
  /-- `LD_IYH_IYL_n`, R312. -/
  | ldIyHalfN (h : Half)
  /-- `LD_IY__nn`, R305. -/
  | ldIyMem
  /-- `DEC_IY`, R307. -/
  | decIy
  /-- `LD_other__IY+d`, R328. -/
  | ldOtherIyd
  /-- `INC__IY+d`, R310. -/
  | incIyd
  /-- `DEC__IY+d`, R311. -/
  | decIyd
  /-- `LD__IY+d__n`, R313. -/
  | ldIydN
  /-- `LD_IY__IY+d`, R325. -/
  | ldIyIyd
  /-- `LD__IY+d__other`, R329. -/
  | ldIydOther
  /-- `LD__IY+d__IY`, R327. -/
  | ldIydIy
  /-- `LD_with_IYH_IYL`, R316. -/
  | ldIyHalves (dst : Reg8) (src : Reg8)
  /-- `LD_r__IY+d`, R314. -/
  | ldRIyd (r : Reg8)
  /-- `LD__IY+d__r`, R315. -/
  | ldIydR (r : Reg8)
  /-- `alu_A_IYH_IYL`, R318. -/
  | aluAIyHalf (f : Alu) (h : Half)
  /-- `alu_A__IY+d`, R317. -/
  | aluAIyd (f : Alu)
  /-- `POP_IY`, R319. -/
  | popIy
  /-- `EX__SP__IY`, R323. -/
  | exIndSpIy
  /-- `PUSH_IY`, R320. -/
  | pushIy
  /-- `JP__IY`, R321. -/
  | jpIndIy
  /-- `LD_SP_IY`, R322. -/
  | ldSpIy
  -- CB page (42_cb_page.md)
  /-- `RLC_r`, R351. -/
  | rlcR (r : Reg8)
  /-- `RRC_r`, R352. -/
  | rrcR (r : Reg8)
  /-- `RL_r`, R353. -/
  | rlR (r : Reg8)
  /-- `RR_r`, R354. -/
  | rrR (r : Reg8)
  /-- `SLA_r`, R355. -/
  | slaR (r : Reg8)
  /-- `SRA_r`, R356. -/
  | sraR (r : Reg8)
  /-- `SLL_r`, R357. -/
  | sllR (r : Reg8)
  /-- `SRL_r`, R358. -/
  | srlR (r : Reg8)
  /-- `BIT_b_r`, R359. -/
  | bitBR (b : Fin 8) (r : Reg8)
  /-- `RES_b_r`, R360. -/
  | resBR (b : Fin 8) (r : Reg8)
  /-- `SET_b_r`, R361. -/
  | setBR (b : Fin 8) (r : Reg8)
  -- Indexed CB, DD CB (42_cb_page.md)
  /-- `unrepresented_IX-CB`, R374. -/
  | unrepIxCb (op : Byte)
  /-- `RLC__IX+d`, R363. -/
  | rlcIxd
  /-- `RRC__IX+d`, R364. -/
  | rrcIxd
  /-- `RL__IX+d`, R365. -/
  | rlIxd
  /-- `RR__IX+d`, R366. -/
  | rrIxd
  /-- `SLA__IX+d`, R367. -/
  | slaIxd
  /-- `SRA__IX+d`, R368. -/
  | sraIxd
  /-- `SLL__IX+d`, R369. -/
  | sllIxd
  /-- `SRL__IX+d`, R370. -/
  | srlIxd
  /-- `BIT_b__IX+d`, R371. -/
  | bitBIxd (b : Fin 8)
  /-- `RES_b__IX+d`, R372. -/
  | resBIxd (b : Fin 8)
  /-- `SET_b__IX+d`, R373. -/
  | setBIxd (b : Fin 8)
  -- Indexed CB, FD CB (42_cb_page.md)
  /-- `unrepresented_IY-CB`, R374. -/
  | unrepIyCb (op : Byte)
  /-- `RLC__IY+d`, R363. -/
  | rlcIyd
  /-- `RRC__IY+d`, R364. -/
  | rrcIyd
  /-- `RL__IY+d`, R365. -/
  | rlIyd
  /-- `RR__IY+d`, R366. -/
  | rrIyd
  /-- `SLA__IY+d`, R367. -/
  | slaIyd
  /-- `SRA__IY+d`, R368. -/
  | sraIyd
  /-- `SLL__IY+d`, R369. -/
  | sllIyd
  /-- `SRL__IY+d`, R370. -/
  | srlIyd
  /-- `BIT_b__IY+d`, R371. -/
  | bitBIyd (b : Fin 8)
  /-- `RES_b__IY+d`, R372. -/
  | resBIyd (b : Fin 8)
  /-- `SET_b__IY+d`, R373. -/
  | setBIyd (b : Fin 8)
  -- ED page (43_ed_page.md, 44_ed_block.md)
  /-- `IN0_r__n`, R401. -/
  | in0RN (r : Reg8)
  /-- `OUT0__n__r`, R402. -/
  | out0NR (r : Reg8)
  /-- `LEA_rr_IX+d`, R403. -/
  | leaRrIxd (rr : IndexPair)
  /-- `LEA_rr_IY+d`, R404. -/
  | leaRrIyd (rr : IndexPair)
  /-- `TST_A_r`, R405. -/
  | tstAR (r : Reg8)
  /-- `unrepresented_ED`, R442. -/
  | unrepEd (op : Byte)
  /-- `LD_rr__HL`, R406. -/
  | ldRrIndHl (rr : IndexPair)
  /-- `LD__HL__rr`, R407. -/
  | ldIndHlRr (rr : IndexPair)
  /-- `LD_IY__HL`, R408. -/
  | ldIyIndHl
  /-- `LD__HL__IY`, R409. -/
  | ldIndHlIy
  /-- `IN_r__C`, R410. -/
  | inRC (r : Reg8)
  /-- `OUT__C__r`, R411. -/
  | outCR (r : Reg8)
  /-- `SBC_HL_rr`, R412. -/
  | sbcHlRr (rr : RegPair)
  /-- `LD__nn__rr`, R414. -/
  | ldMemRr (rr : RegPair)
  /-- `NEG`, R416. -/
  | neg
  /-- `RETN`, R422. -/
  | retn
  /-- `IM_0`, R430. -/
  | im0
  /-- `LD_I_A`, R434. -/
  | ldIA
  /-- `ADC_HL_rr`, R413. -/
  | adcHlRr (rr : RegPair)
  /-- `LD_rr__nn`, R415. -/
  | ldRrMem (rr : RegPair)
  /-- `MLT_rr`, R417. -/
  | mltRr (rr : RegPair)
  /-- `RETI`, R423. -/
  | reti
  /-- `LD_R_A`, R435. -/
  | ldRefreshA
  /-- `LEA_IX_IY+d`, R418. -/
  | leaIxIyd
  /-- `LEA_IY_IX+d`, R419. -/
  | leaIyIxd
  /-- `IM_1`, R431. -/
  | im1
  /-- `LD_A_I`, R436. -/
  | ldAI
  /-- `IM_2`, R432. -/
  | im2
  /-- `LD_A_R`, R437. -/
  | ldARefresh
  /-- `TST_A_n`, R420. -/
  | tstAN
  /-- `PEA_IX+d`, R424. -/
  | peaIxd
  /-- `PEA_IY+d`, R425. -/
  | peaIyd
  /-- `RRD`, R438. -/
  | rrd
  /-- `LD_MB_A`, R426. -/
  | ldMbA
  /-- `LD_A_MB`, R427. -/
  | ldAMb
  /-- `RLD`, R439. -/
  | rld
  /-- `TSTIO_n`, R421. -/
  | tstioN
  /-- `SLP`, R433. -/
  | slp
  /-- `STMIX`, R428. -/
  | stmix
  /-- `RSMIX`, R429. -/
  | rsmix
  /-- `unrepresented_ED_block`, R507. -/
  | unrepEdBlock (op : Byte)
  /-- `INIM`, R491. -/
  | inim
  /-- `OTIM`, R492. -/
  | otim
  /-- `INI2`, R493. -/
  | ini2
  /-- `INDM`, R494. -/
  | indm
  /-- `OTDM`, R495. -/
  | otdm
  /-- `IND2`, R496. -/
  | ind2
  /-- `INIMR`, R497. -/
  | inimr
  /-- `OTIMR`, R498. -/
  | otimr
  /-- `INI2R`, R499. -/
  | ini2r
  /-- `INDMR`, R500. -/
  | indmr
  /-- `OTDMR`, R501. -/
  | otdmr
  /-- `IND2R`, R502. -/
  | ind2r
  /-- `LDI`, R471. -/
  | ldi
  /-- `CPI`, R472. -/
  | cpi
  /-- `INI`, R473. -/
  | ini
  /-- `OUTI`, R474. -/
  | outi
  /-- `OUTI2`, R475. -/
  | outi2
  /-- `LDD`, R476. -/
  | ldd
  /-- `CPD`, R477. -/
  | cpd
  /-- `IND`, R478. -/
  | ind
  /-- `OUTD`, R479. -/
  | outd
  /-- `OUTD2`, R480. -/
  | outd2
  /-- `LDIR`, R481. -/
  | ldir
  /-- `CPIR`, R482. -/
  | cpir
  /-- `INIR`, R483. -/
  | inir
  /-- `OTIR`, R484. -/
  | otir
  /-- `OTI2R`, R485. -/
  | oti2r
  /-- `LDDR`, R486. -/
  | lddr
  /-- `CPDR`, R487. -/
  | cpdr
  /-- `INDR`, R488. -/
  | indr
  /-- `OTDR`, R489. -/
  | otdr
  /-- `OTD2R`, R490. -/
  | otd2r
  /-- `INIRX`, R503. -/
  | inirx
  /-- `OTIRX`, R504. -/
  | otirx
  /-- `LD_I_HL`, R440. -/
  | ldIHl
  /-- `INDRX`, R505. -/
  | indrx
  /-- `OTDRX`, R506. -/
  | otdrx
  /-- `LD_HL_I`, R441. -/
  | ldHlI
  deriving DecidableEq, Repr

end Sys2Proof
end

