-- ==== Sys2Proof/WellFormed.lean ====
section
/-! DEFINITION. Which field values each constructor may carry: the values some opcode byte gives it (the opcode lists of
spec/opcode_table.json). The byte lists below are copied from the rules they name. -/

namespace Sys2Proof

/-- The 153 bytes that decode unchanged under DD/FD (R301). -/
def indexInsensitiveBytes : List Byte :=
  [0x00, 0x01, 0x02, 0x03, 0x04, 0x05, 0x06, 0x08, 0x0A, 0x0B, 0x0C, 0x0D, 0x0E, 0x10, 0x11, 0x12, 0x13, 0x14,
   0x15, 0x16, 0x18, 0x1A, 0x1B, 0x1C, 0x1D, 0x1E, 0x20, 0x28, 0x30, 0x32, 0x33, 0x38, 0x3A, 0x3B, 0x3C, 0x3D,
   0x41, 0x42, 0x43, 0x47, 0x48, 0x4A, 0x4B, 0x4F, 0x50, 0x51, 0x53, 0x57, 0x58, 0x59, 0x5A] ++
  [0x5F, 0x76, 0x78, 0x79, 0x7A, 0x7B, 0x7F, 0x80, 0x81, 0x82, 0x83, 0x87, 0x88, 0x89, 0x8A, 0x8B, 0x8F, 0x90,
   0x91, 0x92, 0x93, 0x97, 0x98, 0x99, 0x9A, 0x9B, 0x9F, 0xA0, 0xA1, 0xA2, 0xA3, 0xA7, 0xA8, 0xA9, 0xAA, 0xAB,
   0xAF, 0xB0, 0xB1, 0xB2, 0xB3, 0xB7, 0xB8, 0xB9, 0xBA, 0xBB, 0xBF, 0xC0, 0xC1, 0xC2, 0xC3] ++
  [0xC4, 0xC5, 0xC6, 0xC7, 0xC8, 0xC9, 0xCA, 0xCC, 0xCD, 0xCE, 0xCF, 0xD0, 0xD1, 0xD2, 0xD3, 0xD4, 0xD5, 0xD6,
   0xD7, 0xD8, 0xD9, 0xDA, 0xDB, 0xDC, 0xDE, 0xDF, 0xE0, 0xE2, 0xE4, 0xE6, 0xE7, 0xE8, 0xEA, 0xEB, 0xEC, 0xEE,
   0xEF, 0xF0, 0xF1, 0xF2, 0xF3, 0xF4, 0xF5, 0xF6, 0xF7, 0xF8, 0xFA, 0xFB, 0xFC, 0xFE, 0xFF]

/-- The 89 unrepresented ED opcodes with x = 0, 1 and 3 (R442). -/
def unrepresentedEdBytes : List Byte :=
  [0x05, 0x06, 0x0A, 0x0B, 0x0D, 0x0E, 0x15, 0x16, 0x1A, 0x1B, 0x1D, 0x1E, 0x25, 0x26, 0x2A, 0x2B, 0x2D, 0x2E,
   0x30, 0x35, 0x36, 0x3A, 0x3B, 0x3D, 0x4E, 0x5D, 0x70, 0x71, 0x75, 0x77, 0x7F, 0xC0, 0xC1, 0xC4, 0xC5, 0xC6,
   0xC8, 0xC9, 0xCC, 0xCD, 0xCE, 0xCF, 0xD0, 0xD1, 0xD2, 0xD3, 0xD4, 0xD5, 0xD6, 0xD8, 0xD9] ++
  [0xDA, 0xDB, 0xDC, 0xDD, 0xDE, 0xDF, 0xE0, 0xE1, 0xE2, 0xE3, 0xE4, 0xE5, 0xE6, 0xE7, 0xE8, 0xE9, 0xEA, 0xEB,
   0xEC, 0xED, 0xEE, 0xEF, 0xF0, 0xF1, 0xF2, 0xF3, 0xF4, 0xF5, 0xF6, 0xF7, 0xF8, 0xF9, 0xFA, 0xFB, 0xFC, 0xFD,
   0xFE, 0xFF]

/-- The 32 unrepresented ED opcodes with x = 2 (R507). -/
def unrepresentedEdBlockBytes : List Byte :=
  [0x80, 0x81, 0x85, 0x86, 0x87, 0x88, 0x89, 0x8D, 0x8E, 0x8F, 0x90, 0x91, 0x95, 0x96, 0x97, 0x98, 0x99, 0x9D,
   0x9E, 0x9F, 0xA5, 0xA6, 0xA7, 0xAD, 0xAE, 0xAF, 0xB5, 0xB6, 0xB7, 0xBD, 0xBE, 0xBF]

/-- Is the byte in the list of R301? -/
def indexInsensitive (op : Byte) : Bool := indexInsensitiveBytes.contains op

/-- Is the byte in the list of R442? -/
def unrepresentedEd (op : Byte) : Bool := unrepresentedEdBytes.contains op

/-- Is the byte in the list of R507? -/
def unrepresentedEdBlock (op : Byte) : Bool := unrepresentedEdBlockBytes.contains op

/-- The registers whose load to themselves has no byte of its own: the mode-select bytes stand in for `B`, `C`, `D`, `E`,
and `HALT` for `(HL)` (R114, R229). -/
def isModeSelectReg : Reg8 → Bool
  | .b | .c | .d | .e | .mhl => true
  | .h | .l | .a => false

/-- The registers an index prefix replaces by a half (R300 (5)). -/
def isHalved : Reg8 → Bool
  | .h | .l => true
  | .b | .c | .d | .e | .mhl | .a => false

/-- The four conditions of `JR cc` (R204). -/
def isRelativeCond : Cond → Bool
  | .nz | .z | .nc | .c => true
  | .po | .pe | .p | .m => false

/-- The field values an opcode byte can give the row. -/
def Instr.wellFormed : Instr → Bool
  | .modeSelect sfx => sfx != .none
  | .jrCc cc => isRelativeCond cc
  | .ldRR dst src => !(dst == src && isModeSelectReg dst)
  | .baseIxIgnored op => indexInsensitive op
  | .ldRrIxd rr => rr != .sp
  | .ldIxdRr rr => rr != .sp
  | .ldIxHalves dst src => dst != .mhl && src != .mhl && (isHalved dst || isHalved src)
  | .ldRIxd r => r != .mhl
  | .ldIxdR r => r != .mhl
  | .baseIyIgnored op => indexInsensitive op
  | .ldRrIyd rr => rr != .sp
  | .ldIydRr rr => rr != .sp
  | .ldIyHalves dst src => dst != .mhl && src != .mhl && (isHalved dst || isHalved src)
  | .ldRIyd r => r != .mhl
  | .ldIydR r => r != .mhl
  | .unrepIxCb op => op &&& 7 != 6
  | .unrepIyCb op => op &&& 7 != 6
  | .in0RN r => r != .mhl
  | .out0NR r => r != .mhl
  | .unrepEd op => unrepresentedEd op
  | .inRC r => r != .mhl
  | .outCR r => r != .mhl
  | .unrepEdBlock op => unrepresentedEdBlock op
  | .indexPrefix _ | .cbPrefix | .edPrefix | .prefixOnly | .nop | .ldRrNn _ | .ldIndBcA | .incRr _ | .incR _
  | .decR _ | .ldRN _ | .rlca | .exAfAf | .addHlRr _ | .ldAIndBc | .decRr _ | .rrca | .djnz | .ldIndDeA | .rla | .jr
  | .ldAIndDe | .rra | .ldMemHl | .daa | .ldHlMem | .cpl | .ldMemA | .scf | .ldAMem | .ccf | .halt | .addAR _
  | .adcAR _ | .subAR _ | .sbcAR _ | .andAR _ | .xorAR _ | .orAR _ | .cpAR _ | .retCc _ | .popQq _ | .jpCcNn _
  | .jpNn | .callCcNn _ | .pushQq _ | .addAN | .rst _ | .ret | .callNn | .adcAN | .outNA | .subAN | .exx | .inAN
  | .sbcAN | .exIndSpHl | .andAN | .jpIndHl | .exDeHl | .xorAN | .di | .orAN | .ldSpHl | .ei | .cpAN | .addIxRr _
  | .ldIxNn | .ldMemIx | .incIx | .incIxHalf _ | .decIxHalf _ | .ldIxHalfN _ | .ldIxMem | .decIx | .ldOtherIxd
  | .incIxd | .decIxd | .ldIxdN | .ldIxIxd | .ldIxdOther | .ldIxdIx | .aluAIxHalf _ _ | .aluAIxd _ | .popIx
  | .exIndSpIx | .pushIx | .jpIndIx | .ldSpIx | .addIyRr _ | .ldIyNn | .ldMemIy | .incIy | .incIyHalf _
  | .decIyHalf _ | .ldIyHalfN _ | .ldIyMem | .decIy | .ldOtherIyd | .incIyd | .decIyd | .ldIydN | .ldIyIyd
  | .ldIydOther | .ldIydIy | .aluAIyHalf _ _ | .aluAIyd _ | .popIy | .exIndSpIy | .pushIy | .jpIndIy | .ldSpIy
  | .rlcR _ | .rrcR _ | .rlR _ | .rrR _ | .slaR _ | .sraR _ | .sllR _ | .srlR _ | .bitBR _ _ | .resBR _ _
  | .setBR _ _ | .rlcIxd | .rrcIxd | .rlIxd | .rrIxd | .slaIxd | .sraIxd | .sllIxd | .srlIxd | .bitBIxd _
  | .resBIxd _ | .setBIxd _ | .rlcIyd | .rrcIyd | .rlIyd | .rrIyd | .slaIyd | .sraIyd | .sllIyd | .srlIyd
  | .bitBIyd _ | .resBIyd _ | .setBIyd _ | .leaRrIxd _ | .leaRrIyd _ | .tstAR _ | .ldRrIndHl _ | .ldIndHlRr _
  | .ldIyIndHl | .ldIndHlIy | .sbcHlRr _ | .ldMemRr _ | .neg | .retn | .im0 | .ldIA | .adcHlRr _ | .ldRrMem _
  | .mltRr _ | .reti | .ldRefreshA | .leaIxIyd | .leaIyIxd | .im1 | .ldAI | .im2 | .ldARefresh | .tstAN | .peaIxd
  | .peaIyd | .rrd | .ldMbA | .ldAMb | .rld | .tstioN | .slp | .stmix | .rsmix | .inim | .otim | .ini2 | .indm
  | .otdm | .ind2 | .inimr | .otimr | .ini2r | .indmr | .otdmr | .ind2r | .ldi | .cpi | .ini | .outi | .outi2 | .ldd
  | .cpd | .ind | .outd | .outd2 | .ldir | .cpir | .inir | .otir | .oti2r | .lddr | .cpdr | .indr | .otdr | .otd2r
  | .inirx | .otirx | .ldIHl | .indrx | .otdrx | .ldHlI => true

/-- `wellFormed` as a proposition. -/
abbrev Instr.WellFormed (i : Instr) : Prop := i.wellFormed = true

end Sys2Proof
end

