-- ==== Sys2Proof/Decode.lean ====
section
/-! DEFINITION. The classifier of the block (30_encoding.md R100 to R125; the page tables of 40 to 44): which row of the
opcode table one byte selects, in the context the bytes before it set up. Every byte has an outcome in every context (R124,
R150), so classifying never refuses; only an end of the bytes does. Then the encoder, from the same encodings. -/

namespace Sys2Proof

-- Opcode-byte fields (R12, R100)

def fieldX (b : Byte) : Fin 4 := ⟨b.toNat / 64, by have := b.isLt; omega⟩
def fieldY (b : Byte) : Fin 8 := ⟨b.toNat / 8 % 8, by omega⟩
def fieldZ (b : Byte) : Fin 8 := ⟨b.toNat % 8, by omega⟩
def fieldP (b : Byte) : Fin 4 := ⟨b.toNat / 16 % 4, by omega⟩
def fieldQ (b : Byte) : Fin 2 := ⟨b.toNat / 8 % 2, by omega⟩

-- Operand tables (R101 to R108)

/-- `r[i]` (R101). -/
def reg8Of : Fin 8 → Reg8
  | 0 => .b | 1 => .c | 2 => .d | 3 => .e | 4 => .h | 5 => .l | 6 => .mhl | 7 => .a

/-- `rp[p]` (R102). -/
def pairOf : Fin 4 → RegPair
  | 0 => .bc | 1 => .de | 2 => .hl | 3 => .sp

/-- `rp2[p]` (R103). -/
def stackPairOf : Fin 4 → StackPair
  | 0 => .bc | 1 => .de | 2 => .hl | 3 => .af

/-- `rp3[p]` and `rp3Y[p]` (R108). -/
def indexPairOf : Fin 4 → IndexPair
  | 0 => .bc | 1 => .de | 2 => .hl | 3 => .index

/-- `cc[y]` (R104). -/
def condOf : Fin 8 → Cond
  | 0 => .nz | 1 => .z | 2 => .nc | 3 => .c | 4 => .po | 5 => .pe | 6 => .p | 7 => .m

/-- `alu[y]` (R105). -/
def aluOf : Fin 8 → Alu
  | 0 => .add | 1 => .adc | 2 => .sub | 3 => .sbc | 4 => .and | 5 => .xor | 6 => .or | 7 => .cp

/-- `suffix[y]` of a mode-select byte (R107); y ≥ 4 is no mode-select (R114). -/
def suffixOf : Fin 8 → Suffix
  | 0 => .sis | 1 => .lis | 2 => .sil | 3 => .lil | _ => .none

/-- The mode-select bytes: x = 1, y = z, y < 4 (R114). -/
def isModeSelect (b : Byte) : Bool := fieldX b == 1 && fieldY b == fieldZ b && fieldY b < 4

-- The pages

/-- Base page with no index prefix (40_base_page.md; R125), the mode-select test first (R114). The prefix bytes stand at
x = 3. -/
def classifyBase (b : Byte) : Instr :=
  if isModeSelect b then .modeSelect (suffixOf (fieldY b)) else
  let r := reg8Of (fieldY b)
  let rr := pairOf (fieldP b)
  let cc := condOf (fieldY b)
  match fieldX b, fieldZ b with
  | 0, 0 => match fieldY b with
    | 0 => .nop | 1 => .exAfAf | 2 => .djnz | 3 => .jr
    | 4 => .jrCc .nz | 5 => .jrCc .z | 6 => .jrCc .nc | 7 => .jrCc .c
  | 0, 1 => if fieldQ b = 0 then .ldRrNn rr else .addHlRr rr
  | 0, 2 => match fieldY b with
    | 0 => .ldIndBcA | 1 => .ldAIndBc | 2 => .ldIndDeA | 3 => .ldAIndDe
    | 4 => .ldMemHl | 5 => .ldHlMem | 6 => .ldMemA | 7 => .ldAMem
  | 0, 3 => if fieldQ b = 0 then .incRr rr else .decRr rr
  | 0, 4 => .incR r
  | 0, 5 => .decR r
  | 0, 6 => .ldRN r
  | 0, 7 => match fieldY b with
    | 0 => .rlca | 1 => .rrca | 2 => .rla | 3 => .rra | 4 => .daa | 5 => .cpl | 6 => .scf | 7 => .ccf
  | 1, z => if fieldY b = 6 ∧ z = 6 then .halt else .ldRR r (reg8Of z)
  | 2, z => match aluOf (fieldY b) with
    | .add => .addAR (reg8Of z) | .adc => .adcAR (reg8Of z) | .sub => .subAR (reg8Of z) | .sbc => .sbcAR (reg8Of z)
    | .and => .andAR (reg8Of z) | .xor => .xorAR (reg8Of z) | .or => .orAR (reg8Of z) | .cp => .cpAR (reg8Of z)
  | 3, 0 => .retCc cc
  | 3, 1 => if fieldQ b = 0 then .popQq (stackPairOf (fieldP b)) else
    match fieldP b with
    | 0 => .ret | 1 => .exx | 2 => .jpIndHl | 3 => .ldSpHl
  | 3, 2 => .jpCcNn cc
  | 3, 3 => match fieldY b with
    | 0 => .jpNn | 1 => .cbPrefix | 2 => .outNA | 3 => .inAN
    | 4 => .exIndSpHl | 5 => .exDeHl | 6 => .di | 7 => .ei
  | 3, 4 => .callCcNn cc
  | 3, 5 => if fieldQ b = 0 then .pushQq (stackPairOf (fieldP b)) else
    match fieldP b with
    | 0 => .callNn | 1 => .indexPrefix .ix | 2 => .edPrefix | 3 => .indexPrefix .iy
  | 3, 6 => match aluOf (fieldY b) with
    | .add => .addAN | .adc => .adcAN | .sub => .subAN | .sbc => .sbcAN
    | .and => .andAN | .xor => .xorAN | .or => .orAN | .cp => .cpAN
  | 3, 7 => .rst (fieldY b)

/-- The row of the given index register: the DD and FD rows of a rule differ only in the register (41_base_indexed.md). -/
def perIndex (x : IndexReg) (ix iy : Instr) : Instr :=
  match x with
  | .ix => ix
  | .iy => iy

/-- The half an r field of 4 or 5 names under an index prefix (R308). -/
def halfOf (i : Fin 8) : Half := if i = 4 then .high else .low

/-- Base page under DD or FD, the tests of R300 in its order. -/
def classifyIndexed (x : IndexReg) (b : Byte) : Instr :=
  let y := fieldY b
  let z := fieldZ b
  let rr := pairOf (fieldP b)
  let unchanged := perIndex x (.baseIxIgnored b) (.baseIyIgnored b)
  if b = 0x31 then perIndex x .ldOtherIxd .ldOtherIyd
  else if b = 0x3E then perIndex x .ldIxdOther .ldIydOther
  else match fieldX b, z with
  | 0, 7 => match fieldQ b, rr with
    | 0, .sp => perIndex x .ldIxIxd .ldIyIyd
    | 1, .sp => perIndex x .ldIxdIx .ldIydIy
    | 0, rr => perIndex x (.ldRrIxd rr) (.ldRrIyd rr)
    | 1, rr => perIndex x (.ldIxdRr rr) (.ldIydRr rr)
  | 0, 1 => if b = 0x21 then perIndex x .ldIxNn .ldIyNn
    else if fieldQ b = 1 then perIndex x (.addIxRr rr) (.addIyRr rr) else unchanged
  | 0, 2 => if b = 0x22 then perIndex x .ldMemIx .ldMemIy
    else if b = 0x2A then perIndex x .ldIxMem .ldIyMem else unchanged
  | 0, 3 => if b = 0x23 then perIndex x .incIx .incIy
    else if b = 0x2B then perIndex x .decIx .decIy else unchanged
  | 0, 4 => if y = 6 then perIndex x .incIxd .incIyd
    else if y = 4 ∨ y = 5 then perIndex x (.incIxHalf (halfOf y)) (.incIyHalf (halfOf y)) else unchanged
  | 0, 5 => if y = 6 then perIndex x .decIxd .decIyd
    else if y = 4 ∨ y = 5 then perIndex x (.decIxHalf (halfOf y)) (.decIyHalf (halfOf y)) else unchanged
  | 0, 6 => if y = 6 then perIndex x .ldIxdN .ldIydN
    else if y = 4 ∨ y = 5 then perIndex x (.ldIxHalfN (halfOf y)) (.ldIyHalfN (halfOf y)) else unchanged
  | 1, z => if y = 6 ∧ z = 6 then unchanged
    else if z = 6 then perIndex x (.ldRIxd (reg8Of y)) (.ldRIyd (reg8Of y))
    else if y = 6 then perIndex x (.ldIxdR (reg8Of z)) (.ldIydR (reg8Of z))
    else if y = 4 ∨ y = 5 ∨ z = 4 ∨ z = 5 then
      perIndex x (.ldIxHalves (reg8Of y) (reg8Of z)) (.ldIyHalves (reg8Of y) (reg8Of z))
    else unchanged
  | 2, z => if z = 6 then perIndex x (.aluAIxd (aluOf y)) (.aluAIyd (aluOf y))
    else if z = 4 ∨ z = 5 then perIndex x (.aluAIxHalf (aluOf y) (halfOf z)) (.aluAIyHalf (aluOf y) (halfOf z))
    else unchanged
  | 3, _ =>
    if b = 0xE1 then perIndex x .popIx .popIy
    else if b = 0xE3 then perIndex x .exIndSpIx .exIndSpIy
    else if b = 0xE5 then perIndex x .pushIx .pushIy
    else if b = 0xE9 then perIndex x .jpIndIx .jpIndIy
    else if b = 0xF9 then perIndex x .ldSpIx .ldSpIy
    else unchanged
  | 0, 0 => unchanged

/-- A byte in base-page position (R110 to R117): a prefix class taken before ends the instruction (R113); CB is always
accepted. -/
def classifyBasePosition (msTaken : Bool) (rs : RegSet) (b : Byte) : Instr :=
  if isModeSelect b then
    if msTaken then .prefixOnly else .modeSelect (suffixOf (fieldY b))
  else if b = 0xDD ∨ b = 0xFD then
    if rs ≠ .hl then .prefixOnly else .indexPrefix (if b = 0xDD then .ix else .iy)
  else if b = 0xED then
    if rs ≠ .hl then .prefixOnly else .edPrefix
  else if b = 0xCB then .cbPrefix
  else match rs with
    | .hl => classifyBase b
    | .ix => classifyIndexed .ix b
    | .iy => classifyIndexed .iy b

/-- CB page (R350 to R361). -/
def classifyCb (b : Byte) : Instr :=
  let r := reg8Of (fieldZ b)
  let y := fieldY b
  match fieldX b with
  | 0 => match y with
    | 0 => .rlcR r | 1 => .rrcR r | 2 => .rlR r | 3 => .rrR r | 4 => .slaR r | 5 => .sraR r | 6 => .sllR r | 7 => .srlR r
  | 1 => .bitBR y r
  | 2 => .resBR y r
  | 3 => .setBR y r

/-- Indexed CB, the opcode after d (R362 to R374). -/
def classifyIndexCb (x : IndexReg) (b : Byte) : Instr :=
  let y := fieldY b
  if fieldZ b ≠ 6 then perIndex x (.unrepIxCb b) (.unrepIyCb b)
  else match fieldX b with
  | 0 => match y with
    | 0 => perIndex x .rlcIxd .rlcIyd | 1 => perIndex x .rrcIxd .rrcIyd
    | 2 => perIndex x .rlIxd .rlIyd | 3 => perIndex x .rrIxd .rrIyd
    | 4 => perIndex x .slaIxd .slaIyd | 5 => perIndex x .sraIxd .sraIyd
    | 6 => perIndex x .sllIxd .sllIyd | 7 => perIndex x .srlIxd .srlIyd
  | 1 => perIndex x (.bitBIxd y) (.bitBIyd y)
  | 2 => perIndex x (.resBIxd y) (.resBIyd y)
  | 3 => perIndex x (.setBIxd y) (.setBIyd y)

/-- The two block tables of ED x = 2 (R470): block-0 for y = 0..3 and z = 2..4, block-1 for y = 4..7 and z = 0..4; any
other cell is unrepresented (R507). -/
def classifyEdBlock (b : Byte) : Instr :=
  match fieldY b, fieldZ b with
  | 0, 2 => .inim | 0, 3 => .otim | 0, 4 => .ini2
  | 1, 2 => .indm | 1, 3 => .otdm | 1, 4 => .ind2
  | 2, 2 => .inimr | 2, 3 => .otimr | 2, 4 => .ini2r
  | 3, 2 => .indmr | 3, 3 => .otdmr | 3, 4 => .ind2r
  | 4, 0 => .ldi | 4, 1 => .cpi | 4, 2 => .ini | 4, 3 => .outi | 4, 4 => .outi2
  | 5, 0 => .ldd | 5, 1 => .cpd | 5, 2 => .ind | 5, 3 => .outd | 5, 4 => .outd2
  | 6, 0 => .ldir | 6, 1 => .cpir | 6, 2 => .inir | 6, 3 => .otir | 6, 4 => .oti2r
  | 7, 0 => .lddr | 7, 1 => .cpdr | 7, 2 => .indr | 7, 3 => .otdr | 7, 4 => .otd2r
  | _, _ => .unrepEdBlock b

/-- ED page (43_ed_page.md, 44_ed_block.md). Any byte no rule names is unrepresented (R442). -/
def classifyEd (b : Byte) : Instr :=
  let y := fieldY b
  let r := reg8Of y
  let rr := pairOf (fieldP b)
  let rp3 := indexPairOf (fieldP b)
  let q := fieldQ b
  match fieldX b, fieldZ b with
  | 0, 0 => if y = 6 then .unrepEd b else .in0RN r
  | 0, 1 => if y = 6 then .ldIyIndHl else .out0NR r
  | 0, 2 => if q = 0 then .leaRrIxd rp3 else .unrepEd b
  | 0, 3 => if q = 0 then .leaRrIyd rp3 else .unrepEd b
  | 0, 4 => .tstAR r
  | 0, 6 => if y = 7 then .ldIndHlIy else .unrepEd b
  | 0, 7 => if q = 0 then .ldRrIndHl rp3 else .ldIndHlRr rp3
  | 1, 0 => if y = 6 then .unrepEd b else .inRC r
  | 1, 1 => if y = 6 then .unrepEd b else .outCR r
  | 1, 2 => if q = 0 then .sbcHlRr rr else .adcHlRr rr
  | 1, 3 => if q = 0 then .ldMemRr rr else .ldRrMem rr
  | 1, 4 => match y with
    | 0 => .neg | 2 => .leaIxIyd | 4 => .tstAN | 6 => .tstioN | _ => .mltRr rr
  | 1, 5 => match y with
    | 0 => .retn | 1 => .reti | 2 => .leaIyIxd | 4 => .peaIxd | 5 => .ldMbA | 7 => .stmix | _ => .unrepEd b
  | 1, 6 => match y with
    | 0 => .im0 | 2 => .im1 | 3 => .im2 | 4 => .peaIyd | 5 => .ldAMb | 6 => .slp | 7 => .rsmix | _ => .unrepEd b
  | 1, 7 => match y with
    | 0 => .ldIA | 1 => .ldRefreshA | 2 => .ldAI | 3 => .ldARefresh | 4 => .rrd | 5 => .rld | _ => .unrepEd b
  | 2, _ => classifyEdBlock b
  | 3, 2 => if y = 0 then .inirx else if y = 1 then .indrx else .unrepEd b
  | 3, 3 => if y = 0 then .otirx else if y = 1 then .otdrx else .unrepEd b
  | 3, 7 => if y = 0 then .ldIHl else if y = 2 then .ldHlI else .unrepEd b
  | _, _ => .unrepEd b

/-- The row a byte selects in its context: the classifiers of R111. -/
def classify (c : Ctx) (b : Byte) : Instr :=
  match c with
  | .base msTaken rs => classifyBasePosition msTaken rs b
  | .cb => classifyCb b
  | .indexCb x => classifyIndexCb x b
  | .ed => classifyEd b

-- Decoding a list of bytes

/-- Why a list of bytes decodes to nothing. No byte is refused (R124, R150): only the bytes can end. -/
inductive DecodeError where
  /-- The bytes end before the one that would select the row. -/
  | endOfBytes
  deriving DecidableEq, Repr

/-- One read of the prefix state machine: the row the first byte selects, and the bytes left. A prefix-only ending does
not consume its byte (R113). -/
def decode (c : Ctx) : List Byte → Except DecodeError (Instr × List Byte)
  | [] => .error .endOfBytes
  | b :: bs =>
    match classify c b with
    | .prefixOnly => .ok (.prefixOnly, b :: bs)
    | i => .ok (i, bs)

/-- The context after an accepted prefix row (R112, R114 to R117), or none: the row ends the prefix chain. -/
def ctxAfter (pol : DdcbPolicy) : Ctx → Instr → Option Ctx
  | .base _ rs, .modeSelect _ => some (.base true rs)
  | .base ms _, .indexPrefix x => some (.base ms (match x with | .ix => .ix | .iy => .iy))
  | .base _ _, .edPrefix => some .ed
  | .base _ rs, .cbPrefix =>
    match rs, pol with
    | .ix, .indexed => some (.indexCb .ix)
    | .iy, .indexed => some (.indexCb .iy)
    | _, _ => some .cb
  | _, _ => none

/-- The whole prefix chain of one instruction (R111): the row its opcode byte selects, the context it was read in, and the
operand bytes and whatever follows. In an indexed CB the displacement stands before the opcode (R362). -/
def decodeChain (pol : DdcbPolicy) (c : Ctx) : List Byte → Except DecodeError (Ctx × Instr × List Byte)
  | [] => .error .endOfBytes
  | b :: bs =>
    match ctxAfter pol c (classify c b) with
    | none => if classify c b = .prefixOnly then .ok (c, .prefixOnly, b :: bs) else .ok (c, classify c b, bs)
    | some (.indexCb x) =>
      match bs with
      | [] => .error .endOfBytes
      | _ :: rest => decodeChain pol (.indexCb x) rest
    | some c' => decodeChain pol c' bs

-- The host's table words

/-- The `n` bytes of a number, the lowest first: byte order of spec/opcode_table.json. -/
def wordBytes : Nat → Nat → List Byte
  | 0, _ => []
  | n + 1, w => BitVec.ofNat 8 w :: wordBytes n (w / 256)

/-- How many of the bytes stand before the one that selects the row: prefix bytes with a byte after them, and the
displacement of an indexed CB (whose opcode is then the byte after it, or 0 if the bytes end there). -/
def leadLength (c : Ctx) : List Byte → Nat
  | [] => 0
  | [_] => 0
  | b :: bs =>
    match ctxAfter .indexed c (classify c b) with
    | none => 0
    | some (.indexCb x) =>
      match bs with
      | [] => 1
      | _ :: rest => 2 + leadLength (.indexCb x) rest
    | some c' => 1 + leadLength c' bs

/-- The row selected by a byte list as a table word gives it: leading prefix bytes set the context, and the last byte
given selects a row even if it is a prefix byte itself. -/
def tableInstr (c : Ctx) : List Byte → Option Instr
  | [] => none
  | [b] => some (classify c b)
  | b :: bs =>
    match ctxAfter .indexed c (classify c b) with
    | none => some (classify c b)
    | some (.indexCb x) =>
      match bs with
      | [] => none
      | [_] => some (classify (.indexCb x) 0)
      | _ :: rest => tableInstr (.indexCb x) rest
    | some c' => tableInstr c' bs

/-- The row this decoder reads from an instruction whose bits are `w`, numbered as spec/opcode_table.json numbers them. The
table numbers the opcode byte of a row alone, so an 8-bit word is one byte in base-page position (assumption log 13). -/
def decodeTableWord (nbits w : Nat) : Option Instr :=
  tableInstr (.base false .hl) (wordBytes ((nbits + 7) / 8) w)

-- The encoder

def xyz (x y z : Nat) : Byte := BitVec.ofNat 8 (x * 64 + y * 8 + z)
def xpqz (x p q z : Nat) : Byte := xyz x (2 * p + q) z

def reg8Code : Reg8 → Nat
  | .b => 0 | .c => 1 | .d => 2 | .e => 3 | .h => 4 | .l => 5 | .mhl => 6 | .a => 7

def pairCode : RegPair → Nat
  | .bc => 0 | .de => 1 | .hl => 2 | .sp => 3

def stackPairCode : StackPair → Nat
  | .bc => 0 | .de => 1 | .hl => 2 | .af => 3

def indexPairCode : IndexPair → Nat
  | .bc => 0 | .de => 1 | .hl => 2 | .index => 3

def condCode : Cond → Nat
  | .nz => 0 | .z => 1 | .nc => 2 | .c => 3 | .po => 4 | .pe => 5 | .p => 6 | .m => 7

def aluCode : Alu → Nat
  | .add => 0 | .adc => 1 | .sub => 2 | .sbc => 3 | .and => 4 | .xor => 5 | .or => 6 | .cp => 7

def halfCode : Half → Nat
  | .high => 4 | .low => 5

/-- The y (and z) field of the mode-select byte of a suffix (R107). -/
def suffixCode : Suffix → Nat
  | .sis => 0 | .lis => 1 | .sil => 2 | .lil => 3 | .none => 4

/-- The one opcode byte of an instruction, as its own read consumes it; none for the prefix-only ending, which consumes
nothing (R113). Written from the "Encoding" line of each rule. -/
def opcode : Instr → Option Byte
  | .modeSelect sfx => some (xyz 1 (suffixCode sfx) (suffixCode sfx))
  | .indexPrefix .ix => some 0xDD
  | .indexPrefix .iy => some 0xFD
  | .cbPrefix => some 0xCB
  | .edPrefix => some 0xED
  | .prefixOnly => none
  | .nop => some 0x00
  | .ldRrNn rr => some (xpqz 0 (pairCode rr) 0 1)
  | .ldIndBcA => some 0x02
  | .incRr rr => some (xpqz 0 (pairCode rr) 0 3)
  | .incR r => some (xyz 0 (reg8Code r) 4)
  | .decR r => some (xyz 0 (reg8Code r) 5)
  | .ldRN r => some (xyz 0 (reg8Code r) 6)
  | .rlca => some 0x07
  | .exAfAf => some 0x08
  | .addHlRr rr => some (xpqz 0 (pairCode rr) 1 1)
  | .ldAIndBc => some 0x0A
  | .decRr rr => some (xpqz 0 (pairCode rr) 1 3)
  | .rrca => some 0x0F
  | .djnz => some 0x10
  | .ldIndDeA => some 0x12
  | .rla => some 0x17
  | .jr => some 0x18
  | .ldAIndDe => some 0x1A
  | .rra => some 0x1F
  | .jrCc cc => some (xyz 0 (4 + condCode cc) 0)
  | .ldMemHl => some 0x22
  | .daa => some 0x27
  | .ldHlMem => some 0x2A
  | .cpl => some 0x2F
  | .ldMemA => some 0x32
  | .scf => some 0x37
  | .ldAMem => some 0x3A
  | .ccf => some 0x3F
  | .ldRR dst src => some (xyz 1 (reg8Code dst) (reg8Code src))
  | .halt => some 0x76
  | .addAR r => some (xyz 2 0 (reg8Code r))
  | .adcAR r => some (xyz 2 1 (reg8Code r))
  | .subAR r => some (xyz 2 2 (reg8Code r))
  | .sbcAR r => some (xyz 2 3 (reg8Code r))
  | .andAR r => some (xyz 2 4 (reg8Code r))
  | .xorAR r => some (xyz 2 5 (reg8Code r))
  | .orAR r => some (xyz 2 6 (reg8Code r))
  | .cpAR r => some (xyz 2 7 (reg8Code r))
  | .retCc cc => some (xyz 3 (condCode cc) 0)
  | .popQq qq => some (xpqz 3 (stackPairCode qq) 0 1)
  | .jpCcNn cc => some (xyz 3 (condCode cc) 2)
  | .jpNn => some 0xC3
  | .callCcNn cc => some (xyz 3 (condCode cc) 4)
  | .pushQq qq => some (xpqz 3 (stackPairCode qq) 0 5)
  | .addAN => some 0xC6
  | .rst t => some (xyz 3 t.val 7)
  | .ret => some 0xC9
  | .callNn => some 0xCD
  | .adcAN => some 0xCE
  | .outNA => some 0xD3
  | .subAN => some 0xD6
  | .exx => some 0xD9
  | .inAN => some 0xDB
  | .sbcAN => some 0xDE
  | .exIndSpHl => some 0xE3
  | .andAN => some 0xE6
  | .jpIndHl => some 0xE9
  | .exDeHl => some 0xEB
  | .xorAN => some 0xEE
  | .di => some 0xF3
  | .orAN => some 0xF6
  | .ldSpHl => some 0xF9
  | .ei => some 0xFB
  | .cpAN => some 0xFE
  | .baseIxIgnored op => some op
  | .ldRrIxd rr => some (xpqz 0 (pairCode rr) 0 7)
  | .addIxRr rr => some (xpqz 0 (pairCode rr) 1 1)
  | .ldIxdRr rr => some (xpqz 0 (pairCode rr) 1 7)
  | .ldIxNn => some 0x21
  | .ldMemIx => some 0x22
  | .incIx => some 0x23
  | .incIxHalf h => some (xyz 0 (halfCode h) 4)
  | .decIxHalf h => some (xyz 0 (halfCode h) 5)
  | .ldIxHalfN h => some (xyz 0 (halfCode h) 6)
  | .ldIxMem => some 0x2A
  | .decIx => some 0x2B
  | .ldOtherIxd => some 0x31
  | .incIxd => some 0x34
  | .decIxd => some 0x35
  | .ldIxdN => some 0x36
  | .ldIxIxd => some 0x37
  | .ldIxdOther => some 0x3E
  | .ldIxdIx => some 0x3F
  | .ldIxHalves dst src => some (xyz 1 (reg8Code dst) (reg8Code src))
  | .ldRIxd r => some (xyz 1 (reg8Code r) 6)
  | .ldIxdR r => some (xyz 1 6 (reg8Code r))
  | .aluAIxHalf f h => some (xyz 2 (aluCode f) (halfCode h))
  | .aluAIxd f => some (xyz 2 (aluCode f) 6)
  | .popIx => some 0xE1
  | .exIndSpIx => some 0xE3
  | .pushIx => some 0xE5
  | .jpIndIx => some 0xE9
  | .ldSpIx => some 0xF9
  | .baseIyIgnored op => some op
  | .ldRrIyd rr => some (xpqz 0 (pairCode rr) 0 7)
  | .addIyRr rr => some (xpqz 0 (pairCode rr) 1 1)
  | .ldIydRr rr => some (xpqz 0 (pairCode rr) 1 7)
  | .ldIyNn => some 0x21
  | .ldMemIy => some 0x22
  | .incIy => some 0x23
  | .incIyHalf h => some (xyz 0 (halfCode h) 4)
  | .decIyHalf h => some (xyz 0 (halfCode h) 5)
  | .ldIyHalfN h => some (xyz 0 (halfCode h) 6)
  | .ldIyMem => some 0x2A
  | .decIy => some 0x2B
  | .ldOtherIyd => some 0x31
  | .incIyd => some 0x34
  | .decIyd => some 0x35
  | .ldIydN => some 0x36
  | .ldIyIyd => some 0x37
  | .ldIydOther => some 0x3E
  | .ldIydIy => some 0x3F
  | .ldIyHalves dst src => some (xyz 1 (reg8Code dst) (reg8Code src))
  | .ldRIyd r => some (xyz 1 (reg8Code r) 6)
  | .ldIydR r => some (xyz 1 6 (reg8Code r))
  | .aluAIyHalf f h => some (xyz 2 (aluCode f) (halfCode h))
  | .aluAIyd f => some (xyz 2 (aluCode f) 6)
  | .popIy => some 0xE1
  | .exIndSpIy => some 0xE3
  | .pushIy => some 0xE5
  | .jpIndIy => some 0xE9
  | .ldSpIy => some 0xF9
  | .rlcR r => some (xyz 0 0 (reg8Code r))
  | .rrcR r => some (xyz 0 1 (reg8Code r))
  | .rlR r => some (xyz 0 2 (reg8Code r))
  | .rrR r => some (xyz 0 3 (reg8Code r))
  | .slaR r => some (xyz 0 4 (reg8Code r))
  | .sraR r => some (xyz 0 5 (reg8Code r))
  | .sllR r => some (xyz 0 6 (reg8Code r))
  | .srlR r => some (xyz 0 7 (reg8Code r))
  | .bitBR b r => some (xyz 1 b.val (reg8Code r))
  | .resBR b r => some (xyz 2 b.val (reg8Code r))
  | .setBR b r => some (xyz 3 b.val (reg8Code r))
  | .unrepIxCb op => some op
  | .rlcIxd => some (xyz 0 0 6)
  | .rrcIxd => some (xyz 0 1 6)
  | .rlIxd => some (xyz 0 2 6)
  | .rrIxd => some (xyz 0 3 6)
  | .slaIxd => some (xyz 0 4 6)
  | .sraIxd => some (xyz 0 5 6)
  | .sllIxd => some (xyz 0 6 6)
  | .srlIxd => some (xyz 0 7 6)
  | .bitBIxd b => some (xyz 1 b.val 6)
  | .resBIxd b => some (xyz 2 b.val 6)
  | .setBIxd b => some (xyz 3 b.val 6)
  | .unrepIyCb op => some op
  | .rlcIyd => some (xyz 0 0 6)
  | .rrcIyd => some (xyz 0 1 6)
  | .rlIyd => some (xyz 0 2 6)
  | .rrIyd => some (xyz 0 3 6)
  | .slaIyd => some (xyz 0 4 6)
  | .sraIyd => some (xyz 0 5 6)
  | .sllIyd => some (xyz 0 6 6)
  | .srlIyd => some (xyz 0 7 6)
  | .bitBIyd b => some (xyz 1 b.val 6)
  | .resBIyd b => some (xyz 2 b.val 6)
  | .setBIyd b => some (xyz 3 b.val 6)
  | .in0RN r => some (xyz 0 (reg8Code r) 0)
  | .out0NR r => some (xyz 0 (reg8Code r) 1)
  | .leaRrIxd rr => some (xpqz 0 (indexPairCode rr) 0 2)
  | .leaRrIyd rr => some (xpqz 0 (indexPairCode rr) 0 3)
  | .tstAR r => some (xyz 0 (reg8Code r) 4)
  | .unrepEd op => some op
  | .ldRrIndHl rr => some (xpqz 0 (indexPairCode rr) 0 7)
  | .ldIndHlRr rr => some (xpqz 0 (indexPairCode rr) 1 7)
  | .ldIyIndHl => some 0x31
  | .ldIndHlIy => some 0x3E
  | .inRC r => some (xyz 1 (reg8Code r) 0)
  | .outCR r => some (xyz 1 (reg8Code r) 1)
  | .sbcHlRr rr => some (xpqz 1 (pairCode rr) 0 2)
  | .ldMemRr rr => some (xpqz 1 (pairCode rr) 0 3)
  | .neg => some 0x44
  | .retn => some 0x45
  | .im0 => some 0x46
  | .ldIA => some 0x47
  | .adcHlRr rr => some (xpqz 1 (pairCode rr) 1 2)
  | .ldRrMem rr => some (xpqz 1 (pairCode rr) 1 3)
  | .mltRr rr => some (xpqz 1 (pairCode rr) 1 4)
  | .reti => some 0x4D
  | .ldRefreshA => some 0x4F
  | .leaIxIyd => some 0x54
  | .leaIyIxd => some 0x55
  | .im1 => some 0x56
  | .ldAI => some 0x57
  | .im2 => some 0x5E
  | .ldARefresh => some 0x5F
  | .tstAN => some 0x64
  | .peaIxd => some 0x65
  | .peaIyd => some 0x66
  | .rrd => some 0x67
  | .ldMbA => some 0x6D
  | .ldAMb => some 0x6E
  | .rld => some 0x6F
  | .tstioN => some 0x74
  | .slp => some 0x76
  | .stmix => some 0x7D
  | .rsmix => some 0x7E
  | .unrepEdBlock op => some op
  | .inim => some (xyz 2 0 2)
  | .otim => some (xyz 2 0 3)
  | .ini2 => some (xyz 2 0 4)
  | .indm => some (xyz 2 1 2)
  | .otdm => some (xyz 2 1 3)
  | .ind2 => some (xyz 2 1 4)
  | .inimr => some (xyz 2 2 2)
  | .otimr => some (xyz 2 2 3)
  | .ini2r => some (xyz 2 2 4)
  | .indmr => some (xyz 2 3 2)
  | .otdmr => some (xyz 2 3 3)
  | .ind2r => some (xyz 2 3 4)
  | .ldi => some (xyz 2 4 0)
  | .cpi => some (xyz 2 4 1)
  | .ini => some (xyz 2 4 2)
  | .outi => some (xyz 2 4 3)
  | .outi2 => some (xyz 2 4 4)
  | .ldd => some (xyz 2 5 0)
  | .cpd => some (xyz 2 5 1)
  | .ind => some (xyz 2 5 2)
  | .outd => some (xyz 2 5 3)
  | .outd2 => some (xyz 2 5 4)
  | .ldir => some (xyz 2 6 0)
  | .cpir => some (xyz 2 6 1)
  | .inir => some (xyz 2 6 2)
  | .otir => some (xyz 2 6 3)
  | .oti2r => some (xyz 2 6 4)
  | .lddr => some (xyz 2 7 0)
  | .cpdr => some (xyz 2 7 1)
  | .indr => some (xyz 2 7 2)
  | .otdr => some (xyz 2 7 3)
  | .otd2r => some (xyz 2 7 4)
  | .inirx => some 0xC2
  | .otirx => some 0xC3
  | .ldIHl => some 0xC7
  | .indrx => some 0xCA
  | .otdrx => some 0xCB
  | .ldHlI => some 0xD7

/-- The table each row stands in (the "format" of spec/opcode_table.json). -/
def home : Instr → Home
  | .modeSelect _ => .modeSelect
  | .indexPrefix _ => .indexPrefix
  | .cbPrefix => .cbPrefix
  | .edPrefix => .edPrefix
  | .prefixOnly => .prefixOnly
  | .nop | .ldRrNn _ | .ldIndBcA | .incRr _ | .incR _ | .decR _ | .ldRN _ | .rlca | .exAfAf | .addHlRr _ | .ldAIndBc
  | .decRr _ | .rrca | .djnz | .ldIndDeA | .rla | .jr | .ldAIndDe | .rra | .jrCc _ | .ldMemHl | .daa | .ldHlMem
  | .cpl | .ldMemA | .scf | .ldAMem | .ccf | .ldRR _ _ | .halt | .addAR _ | .adcAR _ | .subAR _ | .sbcAR _ | .andAR _
  | .xorAR _ | .orAR _ | .cpAR _ | .retCc _ | .popQq _ | .jpCcNn _ | .jpNn | .callCcNn _ | .pushQq _ | .addAN
  | .rst _ | .ret | .callNn | .adcAN | .outNA | .subAN | .exx | .inAN | .sbcAN | .exIndSpHl | .andAN | .jpIndHl
  | .exDeHl | .xorAN | .di | .orAN | .ldSpHl | .ei | .cpAN => .base
  | .baseIxIgnored _ | .ldRrIxd _ | .addIxRr _ | .ldIxdRr _ | .ldIxNn | .ldMemIx | .incIx | .incIxHalf _
  | .decIxHalf _ | .ldIxHalfN _ | .ldIxMem | .decIx | .ldOtherIxd | .incIxd | .decIxd | .ldIxdN | .ldIxIxd
  | .ldIxdOther | .ldIxdIx | .ldIxHalves _ _ | .ldRIxd _ | .ldIxdR _ | .aluAIxHalf _ _ | .aluAIxd _ | .popIx
  | .exIndSpIx | .pushIx | .jpIndIx | .ldSpIx => .baseIndexed .ix
  | .baseIyIgnored _ | .ldRrIyd _ | .addIyRr _ | .ldIydRr _ | .ldIyNn | .ldMemIy | .incIy | .incIyHalf _
  | .decIyHalf _ | .ldIyHalfN _ | .ldIyMem | .decIy | .ldOtherIyd | .incIyd | .decIyd | .ldIydN | .ldIyIyd
  | .ldIydOther | .ldIydIy | .ldIyHalves _ _ | .ldRIyd _ | .ldIydR _ | .aluAIyHalf _ _ | .aluAIyd _ | .popIy
  | .exIndSpIy | .pushIy | .jpIndIy | .ldSpIy => .baseIndexed .iy
  | .rlcR _ | .rrcR _ | .rlR _ | .rrR _ | .slaR _ | .sraR _ | .sllR _ | .srlR _ | .bitBR _ _ | .resBR _ _
  | .setBR _ _ => .cb
  | .unrepIxCb _ | .rlcIxd | .rrcIxd | .rlIxd | .rrIxd | .slaIxd | .sraIxd | .sllIxd | .srlIxd | .bitBIxd _
  | .resBIxd _ | .setBIxd _ => .indexCb .ix
  | .unrepIyCb _ | .rlcIyd | .rrcIyd | .rlIyd | .rrIyd | .slaIyd | .sraIyd | .sllIyd | .srlIyd | .bitBIyd _
  | .resBIyd _ | .setBIyd _ => .indexCb .iy
  | .in0RN _ | .out0NR _ | .leaRrIxd _ | .leaRrIyd _ | .tstAR _ | .unrepEd _ | .ldRrIndHl _ | .ldIndHlRr _
  | .ldIyIndHl | .ldIndHlIy | .inRC _ | .outCR _ | .sbcHlRr _ | .ldMemRr _ | .neg | .retn | .im0 | .ldIA | .adcHlRr _
  | .ldRrMem _ | .mltRr _ | .reti | .ldRefreshA | .leaIxIyd | .leaIyIxd | .im1 | .ldAI | .im2 | .ldARefresh | .tstAN
  | .peaIxd | .peaIyd | .rrd | .ldMbA | .ldAMb | .rld | .tstioN | .slp | .stmix | .rsmix | .unrepEdBlock _ | .inim
  | .otim | .ini2 | .indm | .otdm | .ind2 | .inimr | .otimr | .ini2r | .indmr | .otdmr | .ind2r | .ldi | .cpi | .ini
  | .outi | .outi2 | .ldd | .cpd | .ind | .outd | .outd2 | .ldir | .cpir | .inir | .otir | .oti2r | .lddr | .cpdr
  | .indr | .otdr | .otd2r | .inirx | .otirx | .ldIHl | .indrx | .otdrx | .ldHlI => .ed

/-- The bytes of the page before the opcode (R115 to R117): the index prefix, the page prefix, and the displacement `d` of
an indexed CB. -/
def leadBytes (d : Byte) : Home → List Byte
  | .modeSelect | .indexPrefix | .cbPrefix | .edPrefix | .prefixOnly | .base => []
  | .baseIndexed .ix => [0xDD]
  | .baseIndexed .iy => [0xFD]
  | .cb => [0xCB]
  | .indexCb .ix => [0xDD, 0xCB, d]
  | .indexCb .iy => [0xFD, 0xCB, d]
  | .ed => [0xED]

/-- The bytes of an instruction up to and with its opcode byte, with displacement byte `d` where the row is an indexed CB
(without a mode-select, which may stand before any of them, R114). -/
def encodeWith (d : Byte) (i : Instr) : List Byte := leadBytes d (home i) ++ (opcode i).toList

/-- `encodeWith` with displacement 0. -/
def encode (i : Instr) : List Byte := encodeWith 0 i

/-- The contexts in which a byte can select a row of the given table. -/
def Home.admits : Home → Ctx → Bool
  | .modeSelect, .base ms _ => !ms
  | .indexPrefix, .base _ rs => rs == .hl
  | .edPrefix, .base _ rs => rs == .hl
  | .cbPrefix, .base _ _ => true
  | .prefixOnly, .base ms rs => ms || rs != .hl
  | .base, .base _ rs => rs == .hl
  | .baseIndexed .ix, .base _ rs => rs == .ix
  | .baseIndexed .iy, .base _ rs => rs == .iy
  | .cb, .cb => true
  | .indexCb x, .indexCb y => x == y
  | .ed, .ed => true
  | _, _ => false

end Sys2Proof
end

