-- ==== Sys2Proof/Machine/Text.lean ====
section
/-! DEFINITION. The spellings of 30_encoding.md R131 to R137: numbers, register names and operand shapes. -/

namespace Sys2Proof.Machine

-- Numbers

/-- One upper-case hexadecimal digit, of the low four bits of a number. -/
def hexDigit (v : Nat) : Char := if v % 16 < 10 then Char.ofNat (48 + v % 16) else Char.ofNat (55 + v % 16)

/-- `hex2` (R11): two digits, zero-padded. -/
def hex2 (b : Byte) : String := String.ofList [hexDigit (b.toNat / 16), hexDigit b.toNat]

/-- `hex6` (R11): six digits, zero-padded. -/
def hex6 (w : Addr) : String :=
  String.ofList [hexDigit (w.toNat / 1048576), hexDigit (w.toNat / 65536), hexDigit (w.toNat / 4096),
    hexDigit (w.toNat / 256), hexDigit (w.toNat / 16), hexDigit w.toNat]

/-- One decimal digit. -/
def decDigit (v : Nat) : Char := Char.ofNat (48 + v % 10)

/-- `decimal` (R11), with no leading zero, for a number below 1000: the magnitudes of displacements, bit indexes and
interrupt modes (R133, R136). -/
def decimal (v : Nat) : String :=
  if v < 10 then String.ofList [decDigit v]
  else if v < 100 then String.ofList [decDigit (v / 10), decDigit v]
  else String.ofList [decDigit (v / 100), decDigit (v / 10), decDigit v]

/-- `Byte(n)` (R11, R131). -/
def byteText (b : Byte) : String := "&" ++ hex2 b

/-- `Word(w)` (R11, R131, R132): six digits in both widths. -/
def wordText (w : Addr) : String := "&" ++ hex6 w

/-- `Port(n)` (R11, R135). -/
def portText (b : Byte) : String := "(" ++ byteText b ++ ")"

/-- `Mem(w)` (R11, R135). -/
def memText (w : Addr) : String := "(" ++ wordText w ++ ")"

-- Names (R101 to R109, R137)

def reg8Text : Reg8 → String
  | .b => "B" | .c => "C" | .d => "D" | .e => "E" | .h => "H" | .l => "L" | .mhl => "(HL)" | .a => "A"

def pairText : RegPair → String
  | .bc => "BC" | .de => "DE" | .hl => "HL" | .sp => "SP"

def stackPairText : StackPair → String
  | .bc => "BC" | .de => "DE" | .hl => "HL" | .af => "AF"

def condText : Cond → String
  | .nz => "NZ" | .z => "Z" | .nc => "NC" | .c => "C" | .po => "PO" | .pe => "PE" | .p => "P" | .m => "M"

def aluText : Alu → String
  | .add => "ADD" | .adc => "ADC" | .sub => "SUB" | .sbc => "SBC" | .and => "AND" | .xor => "XOR" | .or => "OR"
  | .cp => "CP"

def suffixText : Suffix → String
  | .none => "" | .sis => "SIS" | .lis => "LIS" | .sil => "SIL" | .lil => "LIL"

/-- The index register itself (R109). -/
def indexText : IndexReg → String
  | .ix => "IX" | .iy => "IY"

/-- `other(s)` (R109). -/
def other : IndexReg → IndexReg
  | .ix => .iy
  | .iy => .ix

/-- `half(s, y)` (R109, R308). -/
def halfText : IndexReg → Half → String
  | .ix, .high => "IXH" | .ix, .low => "IXL" | .iy, .high => "IYH" | .iy, .low => "IYL"

/-- `sub(i)` (R316): a half in place of `H` and `L`, else the register. -/
def subText (x : IndexReg) : Reg8 → String
  | .h => halfText x .high
  | .l => halfText x .low
  | r => reg8Text r

/-- `rp[p]` with entry 2 replaced by s (R303). -/
def indexedPairText (x : IndexReg) : RegPair → String
  | .hl => indexText x
  | rr => pairText rr

/-- `rp3` and `rp3Y` (R108). -/
def indexPairText (x : IndexReg) : IndexPair → String
  | .bc => "BC" | .de => "DE" | .hl => "HL" | .index => indexText x

/-- `(IX)` and `(IY)` (R135). -/
def indirectText (x : IndexReg) : String := "(" ++ indexText x ++ ")"

/-- `Disp(s, d)` (R11, R134): sign always shown. -/
def dispText (x : IndexReg) (d : Int) : String :=
  indexText x ++ (if d ≥ 0 then "+" else "-") ++ decimal d.natAbs

/-- `Ind(s, d)` (R11, R133). -/
def indText (x : IndexReg) (d : Int) : String := "(" ++ dispText x d ++ ")"

/-- The restart target `y * 8` as a byte (R136, R263). -/
def rstText (t : Fin 8) : String := byteText (BitVec.ofNat 8 (t.val * 8))

/-- A bit index in decimal (R136). -/
def bitText (b : Fin 8) : String := decimal b.val

end Sys2Proof.Machine
end

