-- ==== Sys2Proof/Machine/Operands.lean ====
section
/-! DEFINITION. Every operand form the spec gives (30_encoding.md R120, R131 to R137), and the description of a row that its
meaning runs: rule, page, recipe, and keyword with operands. -/

namespace Sys2Proof.Machine

/-- An operand of the rendered text: a fixed spelling, or one that shows an operand latch (10_state.md R38). -/
inductive Operand where
  /-- A spelling fixed by the opcode. -/
  | name (text : String)
  /-- `Byte(n)`. -/
  | byte
  /-- `Port(n)`. -/
  | port
  /-- `Word(w)`. -/
  | word
  /-- `Mem(w)`. -/
  | mem
  /-- `Word(e)`, a relative target. -/
  | target
  /-- `Ind(s, d)`. -/
  | ind (x : IndexReg)
  /-- `Disp(s, d)`. -/
  | disp (x : IndexReg)
  deriving DecidableEq, Repr

/-- `RenderOperand` (R130); none if the latch it shows holds no value. -/
def renderOperand (s : State) : Operand → Option String
  | .name t => some t
  | .byte => s.n.map byteText
  | .port => s.n.map portText
  | .word => s.w.map wordText
  | .mem => s.w.map memText
  | .target => s.e.map wordText
  | .ind x => s.d.map (indText x)
  | .disp x => s.d.map (dispText x)

/-- The rendered operands, in order; none if one of them has no value. -/
def renderOperands (s : State) : List Operand → Option (List String)
  | [] => some []
  | o :: os =>
    match renderOperand s o, renderOperands s os with
    | some t, some ts => some (t :: ts)
    | _, _ => none

/-- Operands joined by a comma with no space (R130). -/
def joinComma : List String → String
  | [] => ""
  | [t] => t
  | t :: u :: ts => t ++ "," ++ joinComma (u :: ts)

/-- `Text(kw, operands)` (R11, R130): the suffix, if one was taken, right after the keyword. -/
def textOf (kw : String) (sfx : Suffix) (operands : List String) : String :=
  kw ++ (if sfx = .none then "" else "." ++ suffixText sfx) ++
    (if operands = [] then "" else " " ++ joinComma operands)

/-- What a row of a page table gives: its rule (the record's `form`), its page, its recipe, and its keyword and operands;
no keyword for an unrepresented row (R123). -/
structure Form where
  rule   : Nat
  page   : Page
  recipe : Recipe
  body   : Option (String × List Operand)
  deriving DecidableEq, Repr

/-- A row with a text. -/
def fullForm (rule : Nat) (page : Page) (recipe : Recipe) (kw : String) (operands : List Operand) : Form :=
  { rule := rule, page := page, recipe := recipe, body := some (kw, operands) }

/-- An unrepresented row: no text, no operand fetched (R123). -/
def unrepresentedForm (rule : Nat) (page : Page) : Form :=
  { rule := rule, page := page, recipe := .none, body := none }

end Sys2Proof.Machine
end

