-- ==== Sys2Proof/Machine/Ops.lean ====
section
/-! DEFINITION. The named operations of the block: the fetch primitives (20_memory.md), the three reset points
(70_reset_and_hazards.md), raising the stream fault (60_exceptions.md R602), completing an instruction (30_encoding.md R111,
R140), running a row of a page table, and what the host can do (60_exceptions.md R615). -/

namespace Sys2Proof.Machine

-- The stream

/-- `READABLE(a)` (20_memory.md R71). -/
def readable (p : Params) (a : Addr) : Bool :=
  !(p.unreadable.any fun r => decide (r.first.toNat ≤ a.toNat) && decide (a.toNat ≤ r.last.toNat))

/-- The stream byte at an address (R70). -/
def State.streamByte (s : State) (a : Addr) : Byte := memRead s.stream a.toNat

/-- `Read()` (R72): the byte at `cursor`, or none if it may not be read. Nothing is consumed. -/
def State.read (s : State) : Option Byte :=
  if readable s.params s.cursor then some (s.streamByte s.cursor) else none

/-- `Accept(b)` (R72). -/
def State.accept (s : State) (b : Byte) : State :=
  { s with rawBytes := s.rawBytes ++ [b], cursor := s.cursor + 1 }

/-- `StreamFault(cursor)` (60_exceptions.md R601, R602): the only exception of the block. Nothing is saved and nothing is
entered (R607); the run ends. -/
def State.raiseStreamFault (s : State) : State :=
  { s with fault := .streamFault s.cursor, runState := .faulted }

/-- The read a meaning makes, and what follows it. With no run active no read is made (10_state.md R42; 60_exceptions.md R602
(d)): nothing happens, and no register but `runState`, the one that holds a value at power-on (R700), is looked at
(assumption log 9). -/
def withRead (s : State) (k : Byte → Host.Outcome State Fault Refusal) : Host.Outcome State Fault Refusal :=
  match s.runState with
  | .idle | .done | .faulted => .next s
  | .running =>
    match s.read with
    | none => .next s.raiseStreamFault
    | some b => k b

-- Reset points

/-- Instruction start (70_reset_and_hazards.md R702). The record of the instruction before it is no longer ready (10_state.md
R47 (d)). -/
def State.beginInstr (s : State) : State :=
  { s with
    startAddress := s.cursor, suffix := .none, regSet := .hl, phase := .noPrefix, rawBytes := []
    op := none, page := none, d := none, n := none, w := none, e := none, output := none }

/-- Run start (R701), with the instruction start that follows it; a budget of 0 ends the run at once (decision D4). -/
def State.startRun (s : State) (width : ExecWidth) (start : Addr) (count : Int) : State :=
  { s with
    execWidth := width, cursor := start, remaining := count, fault := .none
    runState := if count > 0 then .running else .done, emitted := [] }.beginInstr

-- Operand fetch (20_memory.md R73 to R76). Each takes the byte just read.

/-- `sext_8` (00_scope.md R11). -/
def sext8 (b : Byte) : Int := if b.toNat < 128 then b.toNat else (b.toNat : Int) - 256

/-- `n <- FetchByte()` (R73). -/
def State.latchN (s : State) (b : Byte) : State := { s.accept b with n := some b }

/-- `d <- FetchSignedByte()` (R74). -/
def State.latchD (s : State) (b : Byte) : State := { s.accept b with d := some (sext8 b) }

/-- `FetchRelativeTarget()`, from the cursor past the displacement (R75), mod 2^24. -/
def relativeTarget (cursorAfter : Addr) (b : Byte) : Addr := cursorAfter + BitVec.ofInt 24 (sext8 b)

/-- `e <- FetchRelativeTarget()` (R75). -/
def State.latchE (s : State) (b : Byte) : State :=
  { s.accept b with e := some (relativeTarget (s.cursor + 1) b) }

/-- `WordIsLong()` (30_encoding.md R119). -/
def State.wordIsLong (s : State) : Bool :=
  match s.params.widthPolicy with
  | .docOr => s.execWidth == .adlMode || s.suffix == .sil || s.suffix == .lil
  | .suffixOverrides =>
    if s.suffix != .none then s.suffix == .sil || s.suffix == .lil else s.execWidth == .adlMode

/-- `lo | (mid << 8) | (hi << 16)` (R76, R77). -/
def word24 (lo mid hi : Byte) : Addr := BitVec.ofNat 24 (lo.toNat + mid.toNat * 256 + hi.toNat * 65536)

/-- `cursor[23:16]`, the segment byte (R76). -/
def segmentByte (a : Addr) : Byte := BitVec.ofNat 8 (a.toNat / 65536)

/-- How many bytes of the instruction end with its opcode byte, for a row that has operands (R121): the prefix bytes taken,
the ED byte on that page, the opcode. -/
def State.opcodeEnd (s : State) : Nat :=
  (if s.msSeen then 1 else 0) + (if s.idxSeen then 1 else 0) + (if s.page = some .ed then 1 else 0) + 1

/-- How many operand bytes have been accepted. -/
def State.operandCount (s : State) : Nat := s.byteLength - s.opcodeEnd

/-- An operand byte already accepted, in stream order. The word bytes are read back from `rawBytes`: the block holds them
nowhere else (R85). -/
def State.operandByte (s : State) (i : Nat) : Byte := s.rawBytes.getD (s.opcodeEnd + i) 0

-- Completing an instruction

/-- The record of the current instruction (10_state.md R40). -/
def State.record (s : State) (kind : Kind) (form : Option Nat) (text : String) : DecodedInstruction :=
  { startAddress := s.startAddress, byteLength := s.byteLength, rawBytes := s.rawBytes, kind := kind, form := form
    op := s.op, page := s.page, d := s.d, n := s.n, w := s.w, e := s.e, suffix := s.suffix, regSet := s.regSet
    mnemonicText := text }

/-- `emit(record)` at `phase = Complete` (R111), and the driver's budget (R140, R39). -/
def State.finish (s : State) (kind : Kind) (form : Option Nat) (text : String) : State :=
  { s with
    phase := .complete
    output := some (s.record kind form text)
    emitted := s.emitted ++ [s.record kind form text]
    remaining := s.remaining - s.byteLength
    runState := if s.remaining - s.byteLength > 0 then .running else .done }

/-- `Complete(form)` (30_encoding.md R111, R123, R130). -/
def complete (f : Form) (s : State) : Host.Outcome State Fault Refusal :=
  match f.body with
  | none => .next (s.finish .unrepresented (some f.rule) "")
  | some (kw, operands) =>
    match renderOperands s operands with
    | none => .fault .latchNotWritten
    | some ts => .next (s.finish .full (some f.rule) (textOf kw s.suffix ts))

-- Running a row of a page table: one read (70_reset_and_hazards.md R708)

/-- The opcode byte: it is latched, and a row with no operand is complete (R111). -/
def opcodeRead (f : Form) (s : State) (b : Byte) : Host.Outcome State Fault Refusal :=
  let t := { s.accept b with op := some b, page := some f.page, phase := .operands }
  match f.recipe with
  | .none => complete f t
  | .n | .d | .e | .w | .dn => .next t

/-- The next operand byte of the recipe (R120); the last one completes the row. -/
def operandRead (f : Form) (s : State) (b : Byte) : Host.Outcome State Fault Refusal :=
  match f.recipe with
  | .none => complete f (s.accept b)
  | .n => complete f (s.latchN b)
  | .d => complete f (s.latchD b)
  | .e => complete f (s.latchE b)
  | .dn => if s.operandCount = 0 then .next (s.latchD b) else complete f (s.latchN b)
  | .w =>
    let t := s.accept b
    if s.operandCount = 0 then .next t
    else if s.operandCount = 1 then
      if t.wordIsLong then .next t
      else complete f { t with w := some (word24 (t.operandByte 0) b (segmentByte t.cursor)) }
    else complete f { t with w := some (word24 (t.operandByte 0) (t.operandByte 1) b) }

/-- One read of a row: its opcode byte, or in phase `Operands` its next operand byte. -/
def runForm (f : Form) (s : State) : Host.Outcome State Fault Refusal :=
  withRead s fun b => if s.phase = .operands then operandRead f s b else opcodeRead f s b

-- The host

/-- The width a CLI flag names; no flag is the default (00_scope.md R8); any other number is refused (decision D32). -/
def widthOfFlag : Option Nat → Option ExecWidth
  | none => some .adlMode
  | some 0 => some .z80Mode
  | some 1 => some .adlMode
  | some _ => none

/-- One request of the host (60_exceptions.md R605, R615; 70_reset_and_hazards.md R701, R703, R706). -/
def serveHost (ev : HostEvent) (s : State) : Host.Outcome State Fault Refusal :=
  match ev with
  | .start start count flag =>
    if s.runState = .running then .refused .startWhileRunning
    else if start < 2 ^ 24 ∧ 0 ≤ count then
      match widthOfFlag flag with
      | some width => .next (s.startRun width (BitVec.ofNat 24 start) count)
      | none => .refused .inputOutOfType
    else .refused .inputOutOfType
  | .configure p =>
    if s.runState = .running then .refused .paramsChangedDuringRun else .next { s with params := p }
  | .setStream a b =>
    if s.runState = .running then .refused .streamChangedDuringRun
    else .next { s with stream := memWrite s.stream a.toNat b }

/-- What the host can read (60_exceptions.md R615 (3)). -/
inductive HostReg where
  | runState | fault | cursor | remaining
  deriving DecidableEq, Repr

/-- The value the host reads. -/
inductive HostValue where
  | runState (v : RunState)
  | fault (v : FaultStatus)
  | cursor (v : Addr)
  | remaining (v : Int)
  deriving DecidableEq, Repr

/-- What a read of the host is answered with. -/
inductive HostAnswer where
  /-- The register's value. -/
  | value (v : HostValue)
  /-- The fault of a read before the first start: "A model must treat reading any of them before the first start as a fault,
  not as a value" (70_reset_and_hazards.md R700, 93_implementation_defined.md I2). The block itself goes on. -/
  | faultBeforeStart
  /-- A read during a run, which is not among the things the host can do (60_exceptions.md R615; assumption log 3). The block
  itself goes on. -/
  | refusedDuringRun
  deriving DecidableEq, Repr

/-- The host's read of a register (R615 (3)). After a run the register answers. During a run the host can only receive records
(R615 (2)), so the read is refused. Before the first start `runState` is `Idle` and no other register holds a value
(70_reset_and_hazards.md R700); assumption log 3. -/
def hostRead (s : State) (r : HostReg) : HostAnswer :=
  match s.runState with
  | .running => .refusedDuringRun
  | .idle =>
    match r with
    | .runState => .value (.runState .idle)
    | .fault | .cursor | .remaining => .faultBeforeStart
  | .done | .faulted =>
    match r with
    | .runState => .value (.runState s.runState)
    | .fault => .value (.fault s.fault)
    | .cursor => .value (.cursor s.cursor)
    | .remaining => .value (.remaining s.remaining)

end Sys2Proof.Machine
end

