-- ==== Sys2Proof/Machine/BaseX0.lean ====
section
/-! DEFINITION. Base page, x = 0: jumps, loads, increments, accumulator operations (40_base_page.md R200 to R227).
Each row has its form (what the rule's Decode line renders and fetches) and its meaning (one read of that row). -/

namespace Sys2Proof.Machine

/-- R200 `NOP`; no operand. -/
def formNop : Form := fullForm 200 .base .none "NOP" []
def execNop (s : State) : Host.Outcome State Fault Refusal := runForm formNop s

/-- R205 `LD rr,nn`; recipe `w`. -/
def formLdRrNn (rr : RegPair) : Form := fullForm 205 .base .w "LD" [.name (pairText rr), .word]
def execLdRrNn (rr : RegPair) (s : State) : Host.Outcome State Fault Refusal := runForm (formLdRrNn rr) s

/-- R207 `LD (BC),A`; no operand. -/
def formLdIndBcA : Form := fullForm 207 .base .none "LD" [.name "(BC)", .name "A"]
def execLdIndBcA (s : State) : Host.Outcome State Fault Refusal := runForm formLdIndBcA s

/-- R215 `INC rr`; no operand. -/
def formIncRr (rr : RegPair) : Form := fullForm 215 .base .none "INC" [.name (pairText rr)]
def execIncRr (rr : RegPair) (s : State) : Host.Outcome State Fault Refusal := runForm (formIncRr rr) s

/-- R217 `INC r`; no operand. -/
def formIncR (r : Reg8) : Form := fullForm 217 .base .none "INC" [.name (reg8Text r)]
def execIncR (r : Reg8) (s : State) : Host.Outcome State Fault Refusal := runForm (formIncR r) s

/-- R218 `DEC r`; no operand. -/
def formDecR (r : Reg8) : Form := fullForm 218 .base .none "DEC" [.name (reg8Text r)]
def execDecR (r : Reg8) (s : State) : Host.Outcome State Fault Refusal := runForm (formDecR r) s

/-- R219 `LD r,n`; recipe `n`. -/
def formLdRN (r : Reg8) : Form := fullForm 219 .base .n "LD" [.name (reg8Text r), .byte]
def execLdRN (r : Reg8) (s : State) : Host.Outcome State Fault Refusal := runForm (formLdRN r) s

/-- R220 `RLCA`; no operand. -/
def formRlca : Form := fullForm 220 .base .none "RLCA" []
def execRlca (s : State) : Host.Outcome State Fault Refusal := runForm formRlca s

/-- R201 `EX AF,AF'`; no operand. -/
def formExAfAf : Form := fullForm 201 .base .none "EX" [.name "AF", .name "AF'"]
def execExAfAf (s : State) : Host.Outcome State Fault Refusal := runForm formExAfAf s

/-- R206 `ADD HL,rr`; no operand. -/
def formAddHlRr (rr : RegPair) : Form := fullForm 206 .base .none "ADD" [.name "HL", .name (pairText rr)]
def execAddHlRr (rr : RegPair) (s : State) : Host.Outcome State Fault Refusal := runForm (formAddHlRr rr) s

/-- R211 `LD A,(BC)`; no operand. -/
def formLdAIndBc : Form := fullForm 211 .base .none "LD" [.name "A", .name "(BC)"]
def execLdAIndBc (s : State) : Host.Outcome State Fault Refusal := runForm formLdAIndBc s

/-- R216 `DEC rr`; no operand. -/
def formDecRr (rr : RegPair) : Form := fullForm 216 .base .none "DEC" [.name (pairText rr)]
def execDecRr (rr : RegPair) (s : State) : Host.Outcome State Fault Refusal := runForm (formDecRr rr) s

/-- R221 `RRCA`; no operand. -/
def formRrca : Form := fullForm 221 .base .none "RRCA" []
def execRrca (s : State) : Host.Outcome State Fault Refusal := runForm formRrca s

/-- R202 `DJNZ e`; recipe `e`. -/
def formDjnz : Form := fullForm 202 .base .e "DJNZ" [.target]
def execDjnz (s : State) : Host.Outcome State Fault Refusal := runForm formDjnz s

/-- R208 `LD (DE),A`; no operand. -/
def formLdIndDeA : Form := fullForm 208 .base .none "LD" [.name "(DE)", .name "A"]
def execLdIndDeA (s : State) : Host.Outcome State Fault Refusal := runForm formLdIndDeA s

/-- R222 `RLA`; no operand. -/
def formRla : Form := fullForm 222 .base .none "RLA" []
def execRla (s : State) : Host.Outcome State Fault Refusal := runForm formRla s

/-- R203 `JR e`; recipe `e`. -/
def formJr : Form := fullForm 203 .base .e "JR" [.target]
def execJr (s : State) : Host.Outcome State Fault Refusal := runForm formJr s

/-- R212 `LD A,(DE)`; no operand. -/
def formLdAIndDe : Form := fullForm 212 .base .none "LD" [.name "A", .name "(DE)"]
def execLdAIndDe (s : State) : Host.Outcome State Fault Refusal := runForm formLdAIndDe s

/-- R223 `RRA`; no operand. -/
def formRra : Form := fullForm 223 .base .none "RRA" []
def execRra (s : State) : Host.Outcome State Fault Refusal := runForm formRra s

/-- R204 `JR cc,e`; recipe `e`. -/
def formJrCc (cc : Cond) : Form := fullForm 204 .base .e "JR" [.name (condText cc), .target]
def execJrCc (cc : Cond) (s : State) : Host.Outcome State Fault Refusal := runForm (formJrCc cc) s

/-- R209 `LD (nn),HL`; recipe `w`. -/
def formLdMemHl : Form := fullForm 209 .base .w "LD" [.mem, .name "HL"]
def execLdMemHl (s : State) : Host.Outcome State Fault Refusal := runForm formLdMemHl s

/-- R224 `DAA`; no operand. -/
def formDaa : Form := fullForm 224 .base .none "DAA" []
def execDaa (s : State) : Host.Outcome State Fault Refusal := runForm formDaa s

/-- R213 `LD HL,(nn)`; recipe `w`. -/
def formLdHlMem : Form := fullForm 213 .base .w "LD" [.name "HL", .mem]
def execLdHlMem (s : State) : Host.Outcome State Fault Refusal := runForm formLdHlMem s

/-- R225 `CPL`; no operand. -/
def formCpl : Form := fullForm 225 .base .none "CPL" []
def execCpl (s : State) : Host.Outcome State Fault Refusal := runForm formCpl s

/-- R210 `LD (nn),A`; recipe `w`. -/
def formLdMemA : Form := fullForm 210 .base .w "LD" [.mem, .name "A"]
def execLdMemA (s : State) : Host.Outcome State Fault Refusal := runForm formLdMemA s

/-- R226 `SCF`; no operand. -/
def formScf : Form := fullForm 226 .base .none "SCF" []
def execScf (s : State) : Host.Outcome State Fault Refusal := runForm formScf s

/-- R214 `LD A,(nn)`; recipe `w`. -/
def formLdAMem : Form := fullForm 214 .base .w "LD" [.name "A", .mem]
def execLdAMem (s : State) : Host.Outcome State Fault Refusal := runForm formLdAMem s

/-- R227 `CCF`; no operand. -/
def formCcf : Form := fullForm 227 .base .none "CCF" []
def execCcf (s : State) : Host.Outcome State Fault Refusal := runForm formCcf s

end Sys2Proof.Machine
end

