-- ==== Sys2Proof/Machine/BaseX1X2.lean ====
section
/-! DEFINITION. Base page, x = 1 and x = 2: HALT, register loads, 8-bit ALU with a register (40_base_page.md R228 to
R237). Each row has its form (what the rule's Decode line renders and fetches) and its meaning (one read of that row).
-/

namespace Sys2Proof.Machine

/-- R229 `LD r,r'`; no operand. -/
def formLdRR (dst : Reg8) (src : Reg8) : Form :=
  fullForm 229 .base .none "LD" [.name (reg8Text dst), .name (reg8Text src)]
def execLdRR (dst : Reg8) (src : Reg8) (s : State) : Host.Outcome State Fault Refusal := runForm (formLdRR dst src) s

/-- R228 `HALT`; no operand. -/
def formHalt : Form := fullForm 228 .base .none "HALT" []
def execHalt (s : State) : Host.Outcome State Fault Refusal := runForm formHalt s

/-- R230 `ADD A,r`; no operand. -/
def formAddAR (r : Reg8) : Form := fullForm 230 .base .none "ADD" [.name "A", .name (reg8Text r)]
def execAddAR (r : Reg8) (s : State) : Host.Outcome State Fault Refusal := runForm (formAddAR r) s

/-- R231 `ADC A,r`; no operand. -/
def formAdcAR (r : Reg8) : Form := fullForm 231 .base .none "ADC" [.name "A", .name (reg8Text r)]
def execAdcAR (r : Reg8) (s : State) : Host.Outcome State Fault Refusal := runForm (formAdcAR r) s

/-- R232 `SUB A,r`; no operand. -/
def formSubAR (r : Reg8) : Form := fullForm 232 .base .none "SUB" [.name "A", .name (reg8Text r)]
def execSubAR (r : Reg8) (s : State) : Host.Outcome State Fault Refusal := runForm (formSubAR r) s

/-- R233 `SBC A,r`; no operand. -/
def formSbcAR (r : Reg8) : Form := fullForm 233 .base .none "SBC" [.name "A", .name (reg8Text r)]
def execSbcAR (r : Reg8) (s : State) : Host.Outcome State Fault Refusal := runForm (formSbcAR r) s

/-- R234 `AND A,r`; no operand. -/
def formAndAR (r : Reg8) : Form := fullForm 234 .base .none "AND" [.name "A", .name (reg8Text r)]
def execAndAR (r : Reg8) (s : State) : Host.Outcome State Fault Refusal := runForm (formAndAR r) s

/-- R235 `XOR A,r`; no operand. -/
def formXorAR (r : Reg8) : Form := fullForm 235 .base .none "XOR" [.name "A", .name (reg8Text r)]
def execXorAR (r : Reg8) (s : State) : Host.Outcome State Fault Refusal := runForm (formXorAR r) s

/-- R236 `OR A,r`; no operand. -/
def formOrAR (r : Reg8) : Form := fullForm 236 .base .none "OR" [.name "A", .name (reg8Text r)]
def execOrAR (r : Reg8) (s : State) : Host.Outcome State Fault Refusal := runForm (formOrAR r) s

/-- R237 `CP A,r`; no operand. -/
def formCpAR (r : Reg8) : Form := fullForm 237 .base .none "CP" [.name "A", .name (reg8Text r)]
def execCpAR (r : Reg8) (s : State) : Host.Outcome State Fault Refusal := runForm (formCpAR r) s

end Sys2Proof.Machine
end

