-- ==== Sys2Proof/Machine/BaseX3.lean ====
section
/-! DEFINITION. Base page, x = 3: returns, stack, jumps, calls, I/O, immediate ALU, restarts (40_base_page.md R238 to
R263). Each row has its form (what the rule's Decode line renders and fetches) and its meaning (one read of that row).
-/

namespace Sys2Proof.Machine

/-- R238 `RET cc`; no operand. -/
def formRetCc (cc : Cond) : Form := fullForm 238 .base .none "RET" [.name (condText cc)]
def execRetCc (cc : Cond) (s : State) : Host.Outcome State Fault Refusal := runForm (formRetCc cc) s

/-- R239 `POP qq`; no operand. -/
def formPopQq (qq : StackPair) : Form := fullForm 239 .base .none "POP" [.name (stackPairText qq)]
def execPopQq (qq : StackPair) (s : State) : Host.Outcome State Fault Refusal := runForm (formPopQq qq) s

/-- R244 `JP cc,nn`; recipe `w`. -/
def formJpCcNn (cc : Cond) : Form := fullForm 244 .base .w "JP" [.name (condText cc), .word]
def execJpCcNn (cc : Cond) (s : State) : Host.Outcome State Fault Refusal := runForm (formJpCcNn cc) s

/-- R245 `JP nn`; recipe `w`. -/
def formJpNn : Form := fullForm 245 .base .w "JP" [.word]
def execJpNn (s : State) : Host.Outcome State Fault Refusal := runForm formJpNn s

/-- R252 `CALL cc,nn`; recipe `w`. -/
def formCallCcNn (cc : Cond) : Form := fullForm 252 .base .w "CALL" [.name (condText cc), .word]
def execCallCcNn (cc : Cond) (s : State) : Host.Outcome State Fault Refusal := runForm (formCallCcNn cc) s

/-- R253 `PUSH qq`; no operand. -/
def formPushQq (qq : StackPair) : Form := fullForm 253 .base .none "PUSH" [.name (stackPairText qq)]
def execPushQq (qq : StackPair) (s : State) : Host.Outcome State Fault Refusal := runForm (formPushQq qq) s

/-- R255 `ADD A,n`; recipe `n`. -/
def formAddAN : Form := fullForm 255 .base .n "ADD" [.name "A", .byte]
def execAddAN (s : State) : Host.Outcome State Fault Refusal := runForm formAddAN s

/-- R263 `RST p`; no operand. -/
def formRst (t : Fin 8) : Form := fullForm 263 .base .none "RST" [.name (rstText t)]
def execRst (t : Fin 8) (s : State) : Host.Outcome State Fault Refusal := runForm (formRst t) s

/-- R240 `RET`; no operand. -/
def formRet : Form := fullForm 240 .base .none "RET" []
def execRet (s : State) : Host.Outcome State Fault Refusal := runForm formRet s

/-- R254 `CALL nn`; recipe `w`. -/
def formCallNn : Form := fullForm 254 .base .w "CALL" [.word]
def execCallNn (s : State) : Host.Outcome State Fault Refusal := runForm formCallNn s

/-- R256 `ADC A,n`; recipe `n`. -/
def formAdcAN : Form := fullForm 256 .base .n "ADC" [.name "A", .byte]
def execAdcAN (s : State) : Host.Outcome State Fault Refusal := runForm formAdcAN s

/-- R246 `OUT (n),A`; recipe `n`. -/
def formOutNA : Form := fullForm 246 .base .n "OUT" [.port, .name "A"]
def execOutNA (s : State) : Host.Outcome State Fault Refusal := runForm formOutNA s

/-- R257 `SUB A,n`; recipe `n`. -/
def formSubAN : Form := fullForm 257 .base .n "SUB" [.name "A", .byte]
def execSubAN (s : State) : Host.Outcome State Fault Refusal := runForm formSubAN s

/-- R241 `EXX`; no operand. -/
def formExx : Form := fullForm 241 .base .none "EXX" []
def execExx (s : State) : Host.Outcome State Fault Refusal := runForm formExx s

/-- R247 `IN A,(n)`; recipe `n`. -/
def formInAN : Form := fullForm 247 .base .n "IN" [.name "A", .port]
def execInAN (s : State) : Host.Outcome State Fault Refusal := runForm formInAN s

/-- R258 `SBC A,n`; recipe `n`. -/
def formSbcAN : Form := fullForm 258 .base .n "SBC" [.name "A", .byte]
def execSbcAN (s : State) : Host.Outcome State Fault Refusal := runForm formSbcAN s

/-- R248 `EX (SP),HL`; no operand. -/
def formExIndSpHl : Form := fullForm 248 .base .none "EX" [.name "(SP)", .name "HL"]
def execExIndSpHl (s : State) : Host.Outcome State Fault Refusal := runForm formExIndSpHl s

/-- R259 `AND A,n`; recipe `n`. -/
def formAndAN : Form := fullForm 259 .base .n "AND" [.name "A", .byte]
def execAndAN (s : State) : Host.Outcome State Fault Refusal := runForm formAndAN s

/-- R242 `JP (HL)`; no operand. -/
def formJpIndHl : Form := fullForm 242 .base .none "JP" [.name "(HL)"]
def execJpIndHl (s : State) : Host.Outcome State Fault Refusal := runForm formJpIndHl s

/-- R249 `EX DE,HL`; no operand. -/
def formExDeHl : Form := fullForm 249 .base .none "EX" [.name "DE", .name "HL"]
def execExDeHl (s : State) : Host.Outcome State Fault Refusal := runForm formExDeHl s

/-- R260 `XOR A,n`; recipe `n`. -/
def formXorAN : Form := fullForm 260 .base .n "XOR" [.name "A", .byte]
def execXorAN (s : State) : Host.Outcome State Fault Refusal := runForm formXorAN s

/-- R250 `DI`; no operand. -/
def formDi : Form := fullForm 250 .base .none "DI" []
def execDi (s : State) : Host.Outcome State Fault Refusal := runForm formDi s

/-- R261 `OR A,n`; recipe `n`. -/
def formOrAN : Form := fullForm 261 .base .n "OR" [.name "A", .byte]
def execOrAN (s : State) : Host.Outcome State Fault Refusal := runForm formOrAN s

/-- R243 `LD SP,HL`; no operand. -/
def formLdSpHl : Form := fullForm 243 .base .none "LD" [.name "SP", .name "HL"]
def execLdSpHl (s : State) : Host.Outcome State Fault Refusal := runForm formLdSpHl s

/-- R251 `EI`; no operand. -/
def formEi : Form := fullForm 251 .base .none "EI" []
def execEi (s : State) : Host.Outcome State Fault Refusal := runForm formEi s

/-- R262 `CP A,n`; recipe `n`. -/
def formCpAN : Form := fullForm 262 .base .n "CP" [.name "A", .byte]
def execCpAN (s : State) : Host.Outcome State Fault Refusal := runForm formCpAN s

end Sys2Proof.Machine
end

