-- ==== Sys2Proof/Machine/CbPage.lean ====
section
/-! DEFINITION. CB page (42_cb_page.md R350 to R361; under `IgnoreIndex` also after DD and FD, R375). Each row has its
form (what the rule's Decode line renders and fetches) and its meaning (one read of that row). -/

namespace Sys2Proof.Machine

/-- R351 `RLC r`; no operand. -/
def formRlcR (r : Reg8) : Form := fullForm 351 .cb .none "RLC" [.name (reg8Text r)]
def execRlcR (r : Reg8) (s : State) : Host.Outcome State Fault Refusal := runForm (formRlcR r) s

/-- R352 `RRC r`; no operand. -/
def formRrcR (r : Reg8) : Form := fullForm 352 .cb .none "RRC" [.name (reg8Text r)]
def execRrcR (r : Reg8) (s : State) : Host.Outcome State Fault Refusal := runForm (formRrcR r) s

/-- R353 `RL r`; no operand. -/
def formRlR (r : Reg8) : Form := fullForm 353 .cb .none "RL" [.name (reg8Text r)]
def execRlR (r : Reg8) (s : State) : Host.Outcome State Fault Refusal := runForm (formRlR r) s

/-- R354 `RR r`; no operand. -/
def formRrR (r : Reg8) : Form := fullForm 354 .cb .none "RR" [.name (reg8Text r)]
def execRrR (r : Reg8) (s : State) : Host.Outcome State Fault Refusal := runForm (formRrR r) s

/-- R355 `SLA r`; no operand. -/
def formSlaR (r : Reg8) : Form := fullForm 355 .cb .none "SLA" [.name (reg8Text r)]
def execSlaR (r : Reg8) (s : State) : Host.Outcome State Fault Refusal := runForm (formSlaR r) s

/-- R356 `SRA r`; no operand. -/
def formSraR (r : Reg8) : Form := fullForm 356 .cb .none "SRA" [.name (reg8Text r)]
def execSraR (r : Reg8) (s : State) : Host.Outcome State Fault Refusal := runForm (formSraR r) s

/-- R357 `SLL r`; no operand. -/
def formSllR (r : Reg8) : Form := fullForm 357 .cb .none "SLL" [.name (reg8Text r)]
def execSllR (r : Reg8) (s : State) : Host.Outcome State Fault Refusal := runForm (formSllR r) s

/-- The keyword of CB x = 0, y = 7: the parameter `CB_Y7_MNEMONIC` (R358). -/
def cbY7Text : CbY7Mnemonic → String
  | .srl => "SRL"
  | .srr => "SRR"

/-- R358 `SRL r`, keyword by parameter; no operand. -/
def formSrlR (k : CbY7Mnemonic) (r : Reg8) : Form := fullForm 358 .cb .none (cbY7Text k) [.name (reg8Text r)]
def execSrlR (r : Reg8) (s : State) : Host.Outcome State Fault Refusal := runForm (formSrlR s.params.cbY7Mnemonic r) s

/-- R359 `BIT b,r`; no operand. -/
def formBitBR (b : Fin 8) (r : Reg8) : Form := fullForm 359 .cb .none "BIT" [.name (bitText b), .name (reg8Text r)]
def execBitBR (b : Fin 8) (r : Reg8) (s : State) : Host.Outcome State Fault Refusal := runForm (formBitBR b r) s

/-- R360 `RES b,r`; no operand. -/
def formResBR (b : Fin 8) (r : Reg8) : Form := fullForm 360 .cb .none "RES" [.name (bitText b), .name (reg8Text r)]
def execResBR (b : Fin 8) (r : Reg8) (s : State) : Host.Outcome State Fault Refusal := runForm (formResBR b r) s

/-- R361 `SET b,r`; no operand. -/
def formSetBR (b : Fin 8) (r : Reg8) : Form := fullForm 361 .cb .none "SET" [.name (bitText b), .name (reg8Text r)]
def execSetBR (b : Fin 8) (r : Reg8) (s : State) : Host.Outcome State Fault Refusal := runForm (formSetBR b r) s

end Sys2Proof.Machine
end

