-- ==== Sys2Proof/Machine/EdBlock.lean ====
section
/-! DEFINITION. ED page, block rows (44_ed_block.md). No operand, and the repeat is not executed. Each row has its
form (what the rule's Decode line renders and fetches) and its meaning (one read of that row). -/

namespace Sys2Proof.Machine

/-- R507, unrepresented ED block: no text, no operand fetched (30_encoding.md R123). -/
def formUnrepEdBlock : Form := unrepresentedForm 507 .ed
def execUnrepEdBlock (_op : Byte) (s : State) : Host.Outcome State Fault Refusal := runForm formUnrepEdBlock s

/-- R491 `INIM`; no operand. -/
def formInim : Form := fullForm 491 .ed .none "INIM" []
def execInim (s : State) : Host.Outcome State Fault Refusal := runForm formInim s

/-- R492 `OTIM`; no operand. -/
def formOtim : Form := fullForm 492 .ed .none "OTIM" []
def execOtim (s : State) : Host.Outcome State Fault Refusal := runForm formOtim s

/-- R493 `INI2`; no operand. -/
def formIni2 : Form := fullForm 493 .ed .none "INI2" []
def execIni2 (s : State) : Host.Outcome State Fault Refusal := runForm formIni2 s

/-- R494 `INDM`; no operand. -/
def formIndm : Form := fullForm 494 .ed .none "INDM" []
def execIndm (s : State) : Host.Outcome State Fault Refusal := runForm formIndm s

/-- R495 `OTDM`; no operand. -/
def formOtdm : Form := fullForm 495 .ed .none "OTDM" []
def execOtdm (s : State) : Host.Outcome State Fault Refusal := runForm formOtdm s

/-- R496 `IND2`; no operand. -/
def formInd2 : Form := fullForm 496 .ed .none "IND2" []
def execInd2 (s : State) : Host.Outcome State Fault Refusal := runForm formInd2 s

/-- R497 `INIMR`; no operand. -/
def formInimr : Form := fullForm 497 .ed .none "INIMR" []
def execInimr (s : State) : Host.Outcome State Fault Refusal := runForm formInimr s

/-- R498 `OTIMR`; no operand. -/
def formOtimr : Form := fullForm 498 .ed .none "OTIMR" []
def execOtimr (s : State) : Host.Outcome State Fault Refusal := runForm formOtimr s

/-- R499 `INI2R`; no operand. -/
def formIni2r : Form := fullForm 499 .ed .none "INI2R" []
def execIni2r (s : State) : Host.Outcome State Fault Refusal := runForm formIni2r s

/-- R500 `INDMR`; no operand. -/
def formIndmr : Form := fullForm 500 .ed .none "INDMR" []
def execIndmr (s : State) : Host.Outcome State Fault Refusal := runForm formIndmr s

/-- R501 `OTDMR`; no operand. -/
def formOtdmr : Form := fullForm 501 .ed .none "OTDMR" []
def execOtdmr (s : State) : Host.Outcome State Fault Refusal := runForm formOtdmr s

/-- R502 `IND2R`; no operand. -/
def formInd2r : Form := fullForm 502 .ed .none "IND2R" []
def execInd2r (s : State) : Host.Outcome State Fault Refusal := runForm formInd2r s

/-- R471 `LDI`; no operand. -/
def formLdi : Form := fullForm 471 .ed .none "LDI" []
def execLdi (s : State) : Host.Outcome State Fault Refusal := runForm formLdi s

/-- R472 `CPI`; no operand. -/
def formCpi : Form := fullForm 472 .ed .none "CPI" []
def execCpi (s : State) : Host.Outcome State Fault Refusal := runForm formCpi s

/-- R473 `INI`; no operand. -/
def formIni : Form := fullForm 473 .ed .none "INI" []
def execIni (s : State) : Host.Outcome State Fault Refusal := runForm formIni s

/-- R474 `OUTI`; no operand. -/
def formOuti : Form := fullForm 474 .ed .none "OUTI" []
def execOuti (s : State) : Host.Outcome State Fault Refusal := runForm formOuti s

/-- R475 `OUTI2`; no operand. -/
def formOuti2 : Form := fullForm 475 .ed .none "OUTI2" []
def execOuti2 (s : State) : Host.Outcome State Fault Refusal := runForm formOuti2 s

/-- R476 `LDD`; no operand. -/
def formLdd : Form := fullForm 476 .ed .none "LDD" []
def execLdd (s : State) : Host.Outcome State Fault Refusal := runForm formLdd s

/-- R477 `CPD`; no operand. -/
def formCpd : Form := fullForm 477 .ed .none "CPD" []
def execCpd (s : State) : Host.Outcome State Fault Refusal := runForm formCpd s

/-- R478 `IND`; no operand. -/
def formInd : Form := fullForm 478 .ed .none "IND" []
def execInd (s : State) : Host.Outcome State Fault Refusal := runForm formInd s

/-- R479 `OUTD`; no operand. -/
def formOutd : Form := fullForm 479 .ed .none "OUTD" []
def execOutd (s : State) : Host.Outcome State Fault Refusal := runForm formOutd s

/-- R480 `OUTD2`; no operand. -/
def formOutd2 : Form := fullForm 480 .ed .none "OUTD2" []
def execOutd2 (s : State) : Host.Outcome State Fault Refusal := runForm formOutd2 s

/-- R481 `LDIR`; no operand. -/
def formLdir : Form := fullForm 481 .ed .none "LDIR" []
def execLdir (s : State) : Host.Outcome State Fault Refusal := runForm formLdir s

/-- R482 `CPIR`; no operand. -/
def formCpir : Form := fullForm 482 .ed .none "CPIR" []
def execCpir (s : State) : Host.Outcome State Fault Refusal := runForm formCpir s

/-- R483 `INIR`; no operand. -/
def formInir : Form := fullForm 483 .ed .none "INIR" []
def execInir (s : State) : Host.Outcome State Fault Refusal := runForm formInir s

/-- R484 `OTIR`; no operand. -/
def formOtir : Form := fullForm 484 .ed .none "OTIR" []
def execOtir (s : State) : Host.Outcome State Fault Refusal := runForm formOtir s

/-- R485 `OTI2R`; no operand. -/
def formOti2r : Form := fullForm 485 .ed .none "OTI2R" []
def execOti2r (s : State) : Host.Outcome State Fault Refusal := runForm formOti2r s

/-- R486 `LDDR`; no operand. -/
def formLddr : Form := fullForm 486 .ed .none "LDDR" []
def execLddr (s : State) : Host.Outcome State Fault Refusal := runForm formLddr s

/-- R487 `CPDR`; no operand. -/
def formCpdr : Form := fullForm 487 .ed .none "CPDR" []
def execCpdr (s : State) : Host.Outcome State Fault Refusal := runForm formCpdr s

/-- R488 `INDR`; no operand. -/
def formIndr : Form := fullForm 488 .ed .none "INDR" []
def execIndr (s : State) : Host.Outcome State Fault Refusal := runForm formIndr s

/-- R489 `OTDR`; no operand. -/
def formOtdr : Form := fullForm 489 .ed .none "OTDR" []
def execOtdr (s : State) : Host.Outcome State Fault Refusal := runForm formOtdr s

/-- R490 `OTD2R`; no operand. -/
def formOtd2r : Form := fullForm 490 .ed .none "OTD2R" []
def execOtd2r (s : State) : Host.Outcome State Fault Refusal := runForm formOtd2r s

/-- R503 `INIRX`; no operand. -/
def formInirx : Form := fullForm 503 .ed .none "INIRX" []
def execInirx (s : State) : Host.Outcome State Fault Refusal := runForm formInirx s

/-- R504 `OTIRX`; no operand. -/
def formOtirx : Form := fullForm 504 .ed .none "OTIRX" []
def execOtirx (s : State) : Host.Outcome State Fault Refusal := runForm formOtirx s

/-- R505 `INDRX`; no operand. -/
def formIndrx : Form := fullForm 505 .ed .none "INDRX" []
def execIndrx (s : State) : Host.Outcome State Fault Refusal := runForm formIndrx s

/-- R506 `OTDRX`; no operand. -/
def formOtdrx : Form := fullForm 506 .ed .none "OTDRX" []
def execOtdrx (s : State) : Host.Outcome State Fault Refusal := runForm formOtdrx s

end Sys2Proof.Machine
end

