-- ==== Sys2Proof/Machine/EdPage.lean ====
section
/-! DEFINITION. ED page, non-block rows (43_ed_page.md). Each row has its form (what the rule's Decode line renders
and fetches) and its meaning (one read of that row). -/

namespace Sys2Proof.Machine

/-- R401 `IN0 r,(n)`; recipe `n`. -/
def formIn0RN (r : Reg8) : Form := fullForm 401 .ed .n "IN0" [.name (reg8Text r), .port]
def execIn0RN (r : Reg8) (s : State) : Host.Outcome State Fault Refusal := runForm (formIn0RN r) s

/-- R402 `OUT0 (n),r`; recipe `n`. -/
def formOut0NR (r : Reg8) : Form := fullForm 402 .ed .n "OUT0" [.port, .name (reg8Text r)]
def execOut0NR (r : Reg8) (s : State) : Host.Outcome State Fault Refusal := runForm (formOut0NR r) s

/-- R403 `LEA rr,IX+d`; recipe `d`. -/
def formLeaRrIxd (rr : IndexPair) : Form := fullForm 403 .ed .d "LEA" [.name (indexPairText .ix rr), .disp .ix]
def execLeaRrIxd (rr : IndexPair) (s : State) : Host.Outcome State Fault Refusal := runForm (formLeaRrIxd rr) s

/-- R404 `LEA rr,IY+d`; recipe `d`. -/
def formLeaRrIyd (rr : IndexPair) : Form := fullForm 404 .ed .d "LEA" [.name (indexPairText .iy rr), .disp .iy]
def execLeaRrIyd (rr : IndexPair) (s : State) : Host.Outcome State Fault Refusal := runForm (formLeaRrIyd rr) s

/-- R405 `TST A,r`; no operand. -/
def formTstAR (r : Reg8) : Form := fullForm 405 .ed .none "TST" [.name "A", .name (reg8Text r)]
def execTstAR (r : Reg8) (s : State) : Host.Outcome State Fault Refusal := runForm (formTstAR r) s

/-- R442, unrepresented ED: no text, no operand fetched (30_encoding.md R123). -/
def formUnrepEd : Form := unrepresentedForm 442 .ed
def execUnrepEd (_op : Byte) (s : State) : Host.Outcome State Fault Refusal := runForm formUnrepEd s

/-- R406 `LD rr,(HL)`; no operand. -/
def formLdRrIndHl (rr : IndexPair) : Form := fullForm 406 .ed .none "LD" [.name (indexPairText .ix rr), .name "(HL)"]
def execLdRrIndHl (rr : IndexPair) (s : State) : Host.Outcome State Fault Refusal := runForm (formLdRrIndHl rr) s

/-- R407 `LD (HL),rr`; no operand. -/
def formLdIndHlRr (rr : IndexPair) : Form := fullForm 407 .ed .none "LD" [.name "(HL)", .name (indexPairText .ix rr)]
def execLdIndHlRr (rr : IndexPair) (s : State) : Host.Outcome State Fault Refusal := runForm (formLdIndHlRr rr) s

/-- R408 `LD IY,(HL)`; no operand. -/
def formLdIyIndHl : Form := fullForm 408 .ed .none "LD" [.name "IY", .name "(HL)"]
def execLdIyIndHl (s : State) : Host.Outcome State Fault Refusal := runForm formLdIyIndHl s

/-- R409 `LD (HL),IY`; no operand. -/
def formLdIndHlIy : Form := fullForm 409 .ed .none "LD" [.name "(HL)", .name "IY"]
def execLdIndHlIy (s : State) : Host.Outcome State Fault Refusal := runForm formLdIndHlIy s

/-- R410 `IN r,(C)`; no operand. -/
def formInRC (r : Reg8) : Form := fullForm 410 .ed .none "IN" [.name (reg8Text r), .name "(C)"]
def execInRC (r : Reg8) (s : State) : Host.Outcome State Fault Refusal := runForm (formInRC r) s

/-- R411 `OUT (C),r`; no operand. -/
def formOutCR (r : Reg8) : Form := fullForm 411 .ed .none "OUT" [.name "(C)", .name (reg8Text r)]
def execOutCR (r : Reg8) (s : State) : Host.Outcome State Fault Refusal := runForm (formOutCR r) s

/-- R412 `SBC HL,rr`; no operand. -/
def formSbcHlRr (rr : RegPair) : Form := fullForm 412 .ed .none "SBC" [.name "HL", .name (pairText rr)]
def execSbcHlRr (rr : RegPair) (s : State) : Host.Outcome State Fault Refusal := runForm (formSbcHlRr rr) s

/-- R414 `LD (nn),rr`; recipe `w`. -/
def formLdMemRr (rr : RegPair) : Form := fullForm 414 .ed .w "LD" [.mem, .name (pairText rr)]
def execLdMemRr (rr : RegPair) (s : State) : Host.Outcome State Fault Refusal := runForm (formLdMemRr rr) s

/-- R416 `NEG`; no operand. -/
def formNeg : Form := fullForm 416 .ed .none "NEG" []
def execNeg (s : State) : Host.Outcome State Fault Refusal := runForm formNeg s

/-- R422 `RETN`; no operand. -/
def formRetn : Form := fullForm 422 .ed .none "RETN" []
def execRetn (s : State) : Host.Outcome State Fault Refusal := runForm formRetn s

/-- R430 `IM 0`; no operand. -/
def formIm0 : Form := fullForm 430 .ed .none "IM" [.name "0"]
def execIm0 (s : State) : Host.Outcome State Fault Refusal := runForm formIm0 s

/-- R434 `LD I,A`; no operand. -/
def formLdIA : Form := fullForm 434 .ed .none "LD" [.name "I", .name "A"]
def execLdIA (s : State) : Host.Outcome State Fault Refusal := runForm formLdIA s

/-- R413 `ADC HL,rr`; no operand. -/
def formAdcHlRr (rr : RegPair) : Form := fullForm 413 .ed .none "ADC" [.name "HL", .name (pairText rr)]
def execAdcHlRr (rr : RegPair) (s : State) : Host.Outcome State Fault Refusal := runForm (formAdcHlRr rr) s

/-- R415 `LD rr,(nn)`; recipe `w`. -/
def formLdRrMem (rr : RegPair) : Form := fullForm 415 .ed .w "LD" [.name (pairText rr), .mem]
def execLdRrMem (rr : RegPair) (s : State) : Host.Outcome State Fault Refusal := runForm (formLdRrMem rr) s

/-- R417 `MLT rr`; no operand. -/
def formMltRr (rr : RegPair) : Form := fullForm 417 .ed .none "MLT" [.name (pairText rr)]
def execMltRr (rr : RegPair) (s : State) : Host.Outcome State Fault Refusal := runForm (formMltRr rr) s

/-- R423 `RETI`; no operand. -/
def formReti : Form := fullForm 423 .ed .none "RETI" []
def execReti (s : State) : Host.Outcome State Fault Refusal := runForm formReti s

/-- R435 `LD R,A`; no operand. -/
def formLdRefreshA : Form := fullForm 435 .ed .none "LD" [.name "R", .name "A"]
def execLdRefreshA (s : State) : Host.Outcome State Fault Refusal := runForm formLdRefreshA s

/-- R418 `LEA IX,IY+d`; recipe `d`. -/
def formLeaIxIyd : Form := fullForm 418 .ed .d "LEA" [.name "IX", .disp .iy]
def execLeaIxIyd (s : State) : Host.Outcome State Fault Refusal := runForm formLeaIxIyd s

/-- R419 `LEA IY,IX+d`; recipe `d`. -/
def formLeaIyIxd : Form := fullForm 419 .ed .d "LEA" [.name "IY", .disp .ix]
def execLeaIyIxd (s : State) : Host.Outcome State Fault Refusal := runForm formLeaIyIxd s

/-- R431 `IM 1`; no operand. -/
def formIm1 : Form := fullForm 431 .ed .none "IM" [.name "1"]
def execIm1 (s : State) : Host.Outcome State Fault Refusal := runForm formIm1 s

/-- R436 `LD A,I`; no operand. -/
def formLdAI : Form := fullForm 436 .ed .none "LD" [.name "A", .name "I"]
def execLdAI (s : State) : Host.Outcome State Fault Refusal := runForm formLdAI s

/-- R432 `IM 2`; no operand. -/
def formIm2 : Form := fullForm 432 .ed .none "IM" [.name "2"]
def execIm2 (s : State) : Host.Outcome State Fault Refusal := runForm formIm2 s

/-- R437 `LD A,R`; no operand. -/
def formLdARefresh : Form := fullForm 437 .ed .none "LD" [.name "A", .name "R"]
def execLdARefresh (s : State) : Host.Outcome State Fault Refusal := runForm formLdARefresh s

/-- R420 `TST A,n`; recipe `n`. -/
def formTstAN : Form := fullForm 420 .ed .n "TST" [.name "A", .byte]
def execTstAN (s : State) : Host.Outcome State Fault Refusal := runForm formTstAN s

/-- R424 `PEA IX+d`; recipe `d`. -/
def formPeaIxd : Form := fullForm 424 .ed .d "PEA" [.disp .ix]
def execPeaIxd (s : State) : Host.Outcome State Fault Refusal := runForm formPeaIxd s

/-- R425 `PEA IY+d`; recipe `d`. -/
def formPeaIyd : Form := fullForm 425 .ed .d "PEA" [.disp .iy]
def execPeaIyd (s : State) : Host.Outcome State Fault Refusal := runForm formPeaIyd s

/-- R438 `RRD`; no operand. -/
def formRrd : Form := fullForm 438 .ed .none "RRD" []
def execRrd (s : State) : Host.Outcome State Fault Refusal := runForm formRrd s

/-- R426 `LD MB,A`; no operand. -/
def formLdMbA : Form := fullForm 426 .ed .none "LD" [.name "MB", .name "A"]
def execLdMbA (s : State) : Host.Outcome State Fault Refusal := runForm formLdMbA s

/-- R427 `LD A,MB`; no operand. -/
def formLdAMb : Form := fullForm 427 .ed .none "LD" [.name "A", .name "MB"]
def execLdAMb (s : State) : Host.Outcome State Fault Refusal := runForm formLdAMb s

/-- R439 `RLD`; no operand. -/
def formRld : Form := fullForm 439 .ed .none "RLD" []
def execRld (s : State) : Host.Outcome State Fault Refusal := runForm formRld s

/-- R421 `TSTIO n`; recipe `n`. -/
def formTstioN : Form := fullForm 421 .ed .n "TSTIO" [.byte]
def execTstioN (s : State) : Host.Outcome State Fault Refusal := runForm formTstioN s

/-- R433 `SLP`; no operand. -/
def formSlp : Form := fullForm 433 .ed .none "SLP" []
def execSlp (s : State) : Host.Outcome State Fault Refusal := runForm formSlp s

/-- R428 `STMIX`; no operand. -/
def formStmix : Form := fullForm 428 .ed .none "STMIX" []
def execStmix (s : State) : Host.Outcome State Fault Refusal := runForm formStmix s

/-- R429 `RSMIX`; no operand. -/
def formRsmix : Form := fullForm 429 .ed .none "RSMIX" []
def execRsmix (s : State) : Host.Outcome State Fault Refusal := runForm formRsmix s

/-- R440 `LD I,HL`; no operand. -/
def formLdIHl : Form := fullForm 440 .ed .none "LD" [.name "I", .name "HL"]
def execLdIHl (s : State) : Host.Outcome State Fault Refusal := runForm formLdIHl s

/-- R441 `LD HL,I`; no operand. -/
def formLdHlI : Form := fullForm 441 .ed .none "LD" [.name "HL", .name "I"]
def execLdHlI (s : State) : Host.Outcome State Fault Refusal := runForm formLdHlI s

end Sys2Proof.Machine
end

