-- ==== Sys2Proof/Machine/IndexedCb.lean ====
section
/-! DEFINITION. Indexed CB (42_cb_page.md R362 to R374): `s` is the index register of the prefix, d was latched before
the opcode. Each row has its form (what the rule's Decode line renders and fetches) and its meaning (one read of that
row). -/

namespace Sys2Proof.Machine

/-- R374 indexed CB with z ≠ 6: no text (30_encoding.md R123). -/
def formIndexedCbUnrep : Form := unrepresentedForm 374 .indexCb

/-- R363 `RLC (s+d)`. -/
def formIndexedCbRlc (x : IndexReg) : Form := fullForm 363 .indexCb .none "RLC" [.ind x]

/-- R364 `RRC (s+d)`. -/
def formIndexedCbRrc (x : IndexReg) : Form := fullForm 364 .indexCb .none "RRC" [.ind x]

/-- R365 `RL (s+d)`. -/
def formIndexedCbRl (x : IndexReg) : Form := fullForm 365 .indexCb .none "RL" [.ind x]

/-- R366 `RR (s+d)`. -/
def formIndexedCbRr (x : IndexReg) : Form := fullForm 366 .indexCb .none "RR" [.ind x]

/-- R367 `SLA (s+d)`. -/
def formIndexedCbSla (x : IndexReg) : Form := fullForm 367 .indexCb .none "SLA" [.ind x]

/-- R368 `SRA (s+d)`. -/
def formIndexedCbSra (x : IndexReg) : Form := fullForm 368 .indexCb .none "SRA" [.ind x]

/-- R369 `SLL (s+d)`. -/
def formIndexedCbSll (x : IndexReg) : Form := fullForm 369 .indexCb .none "SLL" [.ind x]

/-- R370 `SRL (s+d)`, keyword by parameter (R358). -/
def formIndexedCbSrl (k : CbY7Mnemonic) (x : IndexReg) : Form := fullForm 370 .indexCb .none (cbY7Text k) [.ind x]

/-- R371 `BIT b,(s+d)`. -/
def formIndexedCbBit (x : IndexReg) (b : Fin 8) : Form :=
  fullForm 371 .indexCb .none "BIT" [.name (bitText b), .ind x]

/-- R372 `RES b,(s+d)`. -/
def formIndexedCbRes (x : IndexReg) (b : Fin 8) : Form :=
  fullForm 372 .indexCb .none "RES" [.name (bitText b), .ind x]

/-- R373 `SET b,(s+d)`. -/
def formIndexedCbSet (x : IndexReg) (b : Fin 8) : Form :=
  fullForm 373 .indexCb .none "SET" [.name (bitText b), .ind x]

/-- R374 `unrepresented IX-CB`. -/
def execUnrepIxCb (_op : Byte) (s : State) : Host.Outcome State Fault Refusal := runForm formIndexedCbUnrep s

/-- R363 `RLC (IX+d)`. -/
def execRlcIxd (s : State) : Host.Outcome State Fault Refusal := runForm (formIndexedCbRlc .ix) s

/-- R364 `RRC (IX+d)`. -/
def execRrcIxd (s : State) : Host.Outcome State Fault Refusal := runForm (formIndexedCbRrc .ix) s

/-- R365 `RL (IX+d)`. -/
def execRlIxd (s : State) : Host.Outcome State Fault Refusal := runForm (formIndexedCbRl .ix) s

/-- R366 `RR (IX+d)`. -/
def execRrIxd (s : State) : Host.Outcome State Fault Refusal := runForm (formIndexedCbRr .ix) s

/-- R367 `SLA (IX+d)`. -/
def execSlaIxd (s : State) : Host.Outcome State Fault Refusal := runForm (formIndexedCbSla .ix) s

/-- R368 `SRA (IX+d)`. -/
def execSraIxd (s : State) : Host.Outcome State Fault Refusal := runForm (formIndexedCbSra .ix) s

/-- R369 `SLL (IX+d)`. -/
def execSllIxd (s : State) : Host.Outcome State Fault Refusal := runForm (formIndexedCbSll .ix) s

/-- R370 `SRL (IX+d)`. -/
def execSrlIxd (s : State) : Host.Outcome State Fault Refusal :=
  runForm (formIndexedCbSrl s.params.cbY7Mnemonic .ix) s

/-- R371 `BIT b,(IX+d)`. -/
def execBitBIxd (b : Fin 8) (s : State) : Host.Outcome State Fault Refusal := runForm (formIndexedCbBit .ix b) s

/-- R372 `RES b,(IX+d)`. -/
def execResBIxd (b : Fin 8) (s : State) : Host.Outcome State Fault Refusal := runForm (formIndexedCbRes .ix b) s

/-- R373 `SET b,(IX+d)`. -/
def execSetBIxd (b : Fin 8) (s : State) : Host.Outcome State Fault Refusal := runForm (formIndexedCbSet .ix b) s

/-- R374 `unrepresented IY-CB`. -/
def execUnrepIyCb (_op : Byte) (s : State) : Host.Outcome State Fault Refusal := runForm formIndexedCbUnrep s

/-- R363 `RLC (IY+d)`. -/
def execRlcIyd (s : State) : Host.Outcome State Fault Refusal := runForm (formIndexedCbRlc .iy) s

/-- R364 `RRC (IY+d)`. -/
def execRrcIyd (s : State) : Host.Outcome State Fault Refusal := runForm (formIndexedCbRrc .iy) s

/-- R365 `RL (IY+d)`. -/
def execRlIyd (s : State) : Host.Outcome State Fault Refusal := runForm (formIndexedCbRl .iy) s

/-- R366 `RR (IY+d)`. -/
def execRrIyd (s : State) : Host.Outcome State Fault Refusal := runForm (formIndexedCbRr .iy) s

/-- R367 `SLA (IY+d)`. -/
def execSlaIyd (s : State) : Host.Outcome State Fault Refusal := runForm (formIndexedCbSla .iy) s

/-- R368 `SRA (IY+d)`. -/
def execSraIyd (s : State) : Host.Outcome State Fault Refusal := runForm (formIndexedCbSra .iy) s

/-- R369 `SLL (IY+d)`. -/
def execSllIyd (s : State) : Host.Outcome State Fault Refusal := runForm (formIndexedCbSll .iy) s

/-- R370 `SRL (IY+d)`. -/
def execSrlIyd (s : State) : Host.Outcome State Fault Refusal :=
  runForm (formIndexedCbSrl s.params.cbY7Mnemonic .iy) s

/-- R371 `BIT b,(IY+d)`. -/
def execBitBIyd (b : Fin 8) (s : State) : Host.Outcome State Fault Refusal := runForm (formIndexedCbBit .iy b) s

/-- R372 `RES b,(IY+d)`. -/
def execResBIyd (b : Fin 8) (s : State) : Host.Outcome State Fault Refusal := runForm (formIndexedCbRes .iy b) s

/-- R373 `SET b,(IY+d)`. -/
def execSetBIyd (b : Fin 8) (s : State) : Host.Outcome State Fault Refusal := runForm (formIndexedCbSet .iy b) s

end Sys2Proof.Machine
end

