-- ==== Sys2Proof/Machine/IndexedForms.lean ====
section
/-! DEFINITION. Base page under DD/FD: the forms of R302 to R329, written for s = `x` (41_base_indexed.md R300), and
the rows of R301. The rows of the two prefixes are in IndexedIx.lean and IndexedIy.lean. -/

namespace Sys2Proof.Machine

/-- R302 `LD s,nn`; recipe `w`. -/
def formIndexedLdNn (x : IndexReg) : Form := fullForm 302 .base .w "LD" [.name (indexText x), .word]

/-- R303 `ADD s,rr`: entry 2 of `rp` is s; no operand. -/
def formIndexedAddRr (x : IndexReg) (rr : RegPair) : Form :=
  fullForm 303 .base .none "ADD" [.name (indexText x), .name (indexedPairText x rr)]

/-- R304 `LD (nn),s`; recipe `w`. -/
def formIndexedLdMem (x : IndexReg) : Form := fullForm 304 .base .w "LD" [.mem, .name (indexText x)]

/-- R305 `LD s,(nn)`; recipe `w`. -/
def formIndexedLdFromMem (x : IndexReg) : Form := fullForm 305 .base .w "LD" [.name (indexText x), .mem]

/-- R306 `INC s`; no operand. -/
def formIndexedInc (x : IndexReg) : Form := fullForm 306 .base .none "INC" [.name (indexText x)]

/-- R307 `DEC s`; no operand. -/
def formIndexedDec (x : IndexReg) : Form := fullForm 307 .base .none "DEC" [.name (indexText x)]

/-- R308 `INC sH` / `INC sL`; no operand. -/
def formIndexedIncHalf (x : IndexReg) (h : Half) : Form := fullForm 308 .base .none "INC" [.name (halfText x h)]

/-- R309 `DEC sH` / `DEC sL`; no operand. -/
def formIndexedDecHalf (x : IndexReg) (h : Half) : Form := fullForm 309 .base .none "DEC" [.name (halfText x h)]

/-- R310 `INC (s+d)`; recipe `d`. -/
def formIndexedIncInd (x : IndexReg) : Form := fullForm 310 .base .d "INC" [.ind x]

/-- R311 `DEC (s+d)`; recipe `d`. -/
def formIndexedDecInd (x : IndexReg) : Form := fullForm 311 .base .d "DEC" [.ind x]

/-- R312 `LD sH,n` / `LD sL,n`; recipe `n`. -/
def formIndexedLdHalfN (x : IndexReg) (h : Half) : Form := fullForm 312 .base .n "LD" [.name (halfText x h), .byte]

/-- R313 `LD (s+d),n`: the displacement first, then the immediate; recipe `d n`. -/
def formIndexedLdIndN (x : IndexReg) : Form := fullForm 313 .base .dn "LD" [.ind x, .byte]

/-- R314 `LD r,(s+d)`: `H` and `L` stay (R300 (4)); recipe `d`. -/
def formIndexedLdRInd (x : IndexReg) (r : Reg8) : Form := fullForm 314 .base .d "LD" [.name (reg8Text r), .ind x]

/-- R315 `LD (s+d),r`: `H` and `L` stay (R300 (4)); recipe `d`. -/
def formIndexedLdIndR (x : IndexReg) (r : Reg8) : Form := fullForm 315 .base .d "LD" [.ind x, .name (reg8Text r)]

/-- R316 `LD r1,r2` with index halves; no operand. -/
def formIndexedLdHalves (x : IndexReg) (dst : Reg8) (src : Reg8) : Form :=
  fullForm 316 .base .none "LD" [.name (subText x dst), .name (subText x src)]

/-- R317 `alu A,(s+d)`; recipe `d`. -/
def formIndexedAluInd (x : IndexReg) (f : Alu) : Form := fullForm 317 .base .d (aluText f) [.name "A", .ind x]

/-- R318 `alu A,sH` / `alu A,sL`; no operand. -/
def formIndexedAluHalf (x : IndexReg) (f : Alu) (h : Half) : Form :=
  fullForm 318 .base .none (aluText f) [.name "A", .name (halfText x h)]

/-- R319 `POP s`; no operand. -/
def formIndexedPop (x : IndexReg) : Form := fullForm 319 .base .none "POP" [.name (indexText x)]

/-- R320 `PUSH s`; no operand. -/
def formIndexedPush (x : IndexReg) : Form := fullForm 320 .base .none "PUSH" [.name (indexText x)]

/-- R321 `JP (s)`: no displacement is fetched; no operand. -/
def formIndexedJpInd (x : IndexReg) : Form := fullForm 321 .base .none "JP" [.name (indirectText x)]

/-- R322 `LD SP,s`; no operand. -/
def formIndexedLdSp (x : IndexReg) : Form := fullForm 322 .base .none "LD" [.name "SP", .name (indexText x)]

/-- R323 `EX (SP),s`; no operand. -/
def formIndexedExIndSp (x : IndexReg) : Form := fullForm 323 .base .none "EX" [.name "(SP)", .name (indexText x)]

/-- R324 `LD rr,(s+d)`, rr one of BC, DE, HL; recipe `d`. -/
def formIndexedLdRrInd (x : IndexReg) (rr : RegPair) : Form :=
  fullForm 324 .base .d "LD" [.name (pairText rr), .ind x]

/-- R325 `LD s,(s+d)`; recipe `d`. -/
def formIndexedLdSelfInd (x : IndexReg) : Form := fullForm 325 .base .d "LD" [.name (indexText x), .ind x]

/-- R326 `LD (s+d),rr`, rr one of BC, DE, HL; recipe `d`. -/
def formIndexedLdIndRr (x : IndexReg) (rr : RegPair) : Form :=
  fullForm 326 .base .d "LD" [.ind x, .name (pairText rr)]

/-- R327 `LD (s+d),s`; recipe `d`. -/
def formIndexedLdIndSelf (x : IndexReg) : Form := fullForm 327 .base .d "LD" [.ind x, .name (indexText x)]

/-- R328 `LD other(s),(s+d)`; recipe `d`. -/
def formIndexedLdOtherInd (x : IndexReg) : Form := fullForm 328 .base .d "LD" [.name (indexText (other x)), .ind x]

/-- R329 `LD (s+d),other(s)`; recipe `d`. -/
def formIndexedLdIndOther (x : IndexReg) : Form := fullForm 329 .base .d "LD" [.ind x, .name (indexText (other x))]

/-- The form of a base-page row (40_base_page.md); none for the rows of other tables. -/
def baseForm (i : Instr) : Option Form :=
  match i with
  | .nop => some formNop
  | .ldRrNn rr => some (formLdRrNn rr)
  | .ldIndBcA => some formLdIndBcA
  | .incRr rr => some (formIncRr rr)
  | .incR r => some (formIncR r)
  | .decR r => some (formDecR r)
  | .ldRN r => some (formLdRN r)
  | .rlca => some formRlca
  | .exAfAf => some formExAfAf
  | .addHlRr rr => some (formAddHlRr rr)
  | .ldAIndBc => some formLdAIndBc
  | .decRr rr => some (formDecRr rr)
  | .rrca => some formRrca
  | .djnz => some formDjnz
  | .ldIndDeA => some formLdIndDeA
  | .rla => some formRla
  | .jr => some formJr
  | .ldAIndDe => some formLdAIndDe
  | .rra => some formRra
  | .jrCc cc => some (formJrCc cc)
  | .ldMemHl => some formLdMemHl
  | .daa => some formDaa
  | .ldHlMem => some formLdHlMem
  | .cpl => some formCpl
  | .ldMemA => some formLdMemA
  | .scf => some formScf
  | .ldAMem => some formLdAMem
  | .ccf => some formCcf
  | .ldRR dst src => some (formLdRR dst src)
  | .halt => some formHalt
  | .addAR r => some (formAddAR r)
  | .adcAR r => some (formAdcAR r)
  | .subAR r => some (formSubAR r)
  | .sbcAR r => some (formSbcAR r)
  | .andAR r => some (formAndAR r)
  | .xorAR r => some (formXorAR r)
  | .orAR r => some (formOrAR r)
  | .cpAR r => some (formCpAR r)
  | .retCc cc => some (formRetCc cc)
  | .popQq qq => some (formPopQq qq)
  | .jpCcNn cc => some (formJpCcNn cc)
  | .jpNn => some formJpNn
  | .callCcNn cc => some (formCallCcNn cc)
  | .pushQq qq => some (formPushQq qq)
  | .addAN => some formAddAN
  | .rst t => some (formRst t)
  | .ret => some formRet
  | .callNn => some formCallNn
  | .adcAN => some formAdcAN
  | .outNA => some formOutNA
  | .subAN => some formSubAN
  | .exx => some formExx
  | .inAN => some formInAN
  | .sbcAN => some formSbcAN
  | .exIndSpHl => some formExIndSpHl
  | .andAN => some formAndAN
  | .jpIndHl => some formJpIndHl
  | .exDeHl => some formExDeHl
  | .xorAN => some formXorAN
  | .di => some formDi
  | .orAN => some formOrAN
  | .ldSpHl => some formLdSpHl
  | .ei => some formEi
  | .cpAN => some formCpAN
  | _ => none

/-- A base opcode with no HL, H, L or (HL) operand under DD/FD (R301): the unprefixed row, recorded under rule 301
(assumption log 12). None for the mode-select and prefix bytes, which are no opcodes here. -/
def formIgnored (op : Byte) : Option Form := (baseForm (classifyBase op)).map fun f => { f with rule := 301 }

/-- One read of a row of R301. -/
def runIgnored (op : Byte) (s : State) : Host.Outcome State Fault Refusal :=
  match formIgnored op with
  | some f => runForm f s
  | none => .fault .noForm

end Sys2Proof.Machine
end

