-- ==== Sys2Proof/Machine/IndexedIx.lean ====
section
/-! DEFINITION. Base page under DD: the rows of 41_base_indexed.md for s = IX. Each meaning is one read of its form.
-/

namespace Sys2Proof.Machine

/-- R301 `(base instruction, IX prefix ignored)`. -/
def execBaseIxIgnored (op : Byte) (s : State) : Host.Outcome State Fault Refusal := runIgnored op s

/-- R324 `LD rr,(IX+d)`. -/
def execLdRrIxd (rr : RegPair) (s : State) : Host.Outcome State Fault Refusal := runForm (formIndexedLdRrInd .ix rr) s

/-- R303 `ADD IX,rr`. -/
def execAddIxRr (rr : RegPair) (s : State) : Host.Outcome State Fault Refusal := runForm (formIndexedAddRr .ix rr) s

/-- R326 `LD (IX+d),rr`. -/
def execLdIxdRr (rr : RegPair) (s : State) : Host.Outcome State Fault Refusal := runForm (formIndexedLdIndRr .ix rr) s

/-- R302 `LD IX,nn`. -/
def execLdIxNn (s : State) : Host.Outcome State Fault Refusal := runForm (formIndexedLdNn .ix) s

/-- R304 `LD (nn),IX`. -/
def execLdMemIx (s : State) : Host.Outcome State Fault Refusal := runForm (formIndexedLdMem .ix) s

/-- R306 `INC IX`. -/
def execIncIx (s : State) : Host.Outcome State Fault Refusal := runForm (formIndexedInc .ix) s

/-- R308 `INC IXH/IXL`. -/
def execIncIxHalf (h : Half) (s : State) : Host.Outcome State Fault Refusal := runForm (formIndexedIncHalf .ix h) s

/-- R309 `DEC IXH/IXL`. -/
def execDecIxHalf (h : Half) (s : State) : Host.Outcome State Fault Refusal := runForm (formIndexedDecHalf .ix h) s

/-- R312 `LD IXH/IXL,n`. -/
def execLdIxHalfN (h : Half) (s : State) : Host.Outcome State Fault Refusal := runForm (formIndexedLdHalfN .ix h) s

/-- R305 `LD IX,(nn)`. -/
def execLdIxMem (s : State) : Host.Outcome State Fault Refusal := runForm (formIndexedLdFromMem .ix) s

/-- R307 `DEC IX`. -/
def execDecIx (s : State) : Host.Outcome State Fault Refusal := runForm (formIndexedDec .ix) s

/-- R328 `LD other,(IX+d)`. -/
def execLdOtherIxd (s : State) : Host.Outcome State Fault Refusal := runForm (formIndexedLdOtherInd .ix) s

/-- R310 `INC (IX+d)`. -/
def execIncIxd (s : State) : Host.Outcome State Fault Refusal := runForm (formIndexedIncInd .ix) s

/-- R311 `DEC (IX+d)`. -/
def execDecIxd (s : State) : Host.Outcome State Fault Refusal := runForm (formIndexedDecInd .ix) s

/-- R313 `LD (IX+d),n`. -/
def execLdIxdN (s : State) : Host.Outcome State Fault Refusal := runForm (formIndexedLdIndN .ix) s

/-- R325 `LD IX,(IX+d)`. -/
def execLdIxIxd (s : State) : Host.Outcome State Fault Refusal := runForm (formIndexedLdSelfInd .ix) s

/-- R329 `LD (IX+d),other`. -/
def execLdIxdOther (s : State) : Host.Outcome State Fault Refusal := runForm (formIndexedLdIndOther .ix) s

/-- R327 `LD (IX+d),IX`. -/
def execLdIxdIx (s : State) : Host.Outcome State Fault Refusal := runForm (formIndexedLdIndSelf .ix) s

/-- R316 `LD with IXH/IXL`. -/
def execLdIxHalves (dst : Reg8) (src : Reg8) (s : State) : Host.Outcome State Fault Refusal :=
  runForm (formIndexedLdHalves .ix dst src) s

/-- R314 `LD r,(IX+d)`. -/
def execLdRIxd (r : Reg8) (s : State) : Host.Outcome State Fault Refusal := runForm (formIndexedLdRInd .ix r) s

/-- R315 `LD (IX+d),r`. -/
def execLdIxdR (r : Reg8) (s : State) : Host.Outcome State Fault Refusal := runForm (formIndexedLdIndR .ix r) s

/-- R318 `alu A,IXH/IXL`. -/
def execAluAIxHalf (f : Alu) (h : Half) (s : State) : Host.Outcome State Fault Refusal :=
  runForm (formIndexedAluHalf .ix f h) s

/-- R317 `alu A,(IX+d)`. -/
def execAluAIxd (f : Alu) (s : State) : Host.Outcome State Fault Refusal := runForm (formIndexedAluInd .ix f) s

/-- R319 `POP IX`. -/
def execPopIx (s : State) : Host.Outcome State Fault Refusal := runForm (formIndexedPop .ix) s

/-- R323 `EX (SP),IX`. -/
def execExIndSpIx (s : State) : Host.Outcome State Fault Refusal := runForm (formIndexedExIndSp .ix) s

/-- R320 `PUSH IX`. -/
def execPushIx (s : State) : Host.Outcome State Fault Refusal := runForm (formIndexedPush .ix) s

/-- R321 `JP (IX)`. -/
def execJpIndIx (s : State) : Host.Outcome State Fault Refusal := runForm (formIndexedJpInd .ix) s

/-- R322 `LD SP,IX`. -/
def execLdSpIx (s : State) : Host.Outcome State Fault Refusal := runForm (formIndexedLdSp .ix) s

end Sys2Proof.Machine
end

