-- ==== Sys2Proof/Machine/IndexedIy.lean ====
section
/-! DEFINITION. Base page under FD: the rows of 41_base_indexed.md for s = IY. Each meaning is one read of its form.
-/

namespace Sys2Proof.Machine

/-- R301 `(base instruction, IY prefix ignored)`. -/
def execBaseIyIgnored (op : Byte) (s : State) : Host.Outcome State Fault Refusal := runIgnored op s

/-- R324 `LD rr,(IY+d)`. -/
def execLdRrIyd (rr : RegPair) (s : State) : Host.Outcome State Fault Refusal := runForm (formIndexedLdRrInd .iy rr) s

/-- R303 `ADD IY,rr`. -/
def execAddIyRr (rr : RegPair) (s : State) : Host.Outcome State Fault Refusal := runForm (formIndexedAddRr .iy rr) s

/-- R326 `LD (IY+d),rr`. -/
def execLdIydRr (rr : RegPair) (s : State) : Host.Outcome State Fault Refusal := runForm (formIndexedLdIndRr .iy rr) s

/-- R302 `LD IY,nn`. -/
def execLdIyNn (s : State) : Host.Outcome State Fault Refusal := runForm (formIndexedLdNn .iy) s

/-- R304 `LD (nn),IY`. -/
def execLdMemIy (s : State) : Host.Outcome State Fault Refusal := runForm (formIndexedLdMem .iy) s

/-- R306 `INC IY`. -/
def execIncIy (s : State) : Host.Outcome State Fault Refusal := runForm (formIndexedInc .iy) s

/-- R308 `INC IYH/IYL`. -/
def execIncIyHalf (h : Half) (s : State) : Host.Outcome State Fault Refusal := runForm (formIndexedIncHalf .iy h) s

/-- R309 `DEC IYH/IYL`. -/
def execDecIyHalf (h : Half) (s : State) : Host.Outcome State Fault Refusal := runForm (formIndexedDecHalf .iy h) s

/-- R312 `LD IYH/IYL,n`. -/
def execLdIyHalfN (h : Half) (s : State) : Host.Outcome State Fault Refusal := runForm (formIndexedLdHalfN .iy h) s

/-- R305 `LD IY,(nn)`. -/
def execLdIyMem (s : State) : Host.Outcome State Fault Refusal := runForm (formIndexedLdFromMem .iy) s

/-- R307 `DEC IY`. -/
def execDecIy (s : State) : Host.Outcome State Fault Refusal := runForm (formIndexedDec .iy) s

/-- R328 `LD other,(IY+d)`. -/
def execLdOtherIyd (s : State) : Host.Outcome State Fault Refusal := runForm (formIndexedLdOtherInd .iy) s

/-- R310 `INC (IY+d)`. -/
def execIncIyd (s : State) : Host.Outcome State Fault Refusal := runForm (formIndexedIncInd .iy) s

/-- R311 `DEC (IY+d)`. -/
def execDecIyd (s : State) : Host.Outcome State Fault Refusal := runForm (formIndexedDecInd .iy) s

/-- R313 `LD (IY+d),n`. -/
def execLdIydN (s : State) : Host.Outcome State Fault Refusal := runForm (formIndexedLdIndN .iy) s

/-- R325 `LD IY,(IY+d)`. -/
def execLdIyIyd (s : State) : Host.Outcome State Fault Refusal := runForm (formIndexedLdSelfInd .iy) s

/-- R329 `LD (IY+d),other`. -/
def execLdIydOther (s : State) : Host.Outcome State Fault Refusal := runForm (formIndexedLdIndOther .iy) s

/-- R327 `LD (IY+d),IY`. -/
def execLdIydIy (s : State) : Host.Outcome State Fault Refusal := runForm (formIndexedLdIndSelf .iy) s

/-- R316 `LD with IYH/IYL`. -/
def execLdIyHalves (dst : Reg8) (src : Reg8) (s : State) : Host.Outcome State Fault Refusal :=
  runForm (formIndexedLdHalves .iy dst src) s

/-- R314 `LD r,(IY+d)`. -/
def execLdRIyd (r : Reg8) (s : State) : Host.Outcome State Fault Refusal := runForm (formIndexedLdRInd .iy r) s

/-- R315 `LD (IY+d),r`. -/
def execLdIydR (r : Reg8) (s : State) : Host.Outcome State Fault Refusal := runForm (formIndexedLdIndR .iy r) s

/-- R318 `alu A,IYH/IYL`. -/
def execAluAIyHalf (f : Alu) (h : Half) (s : State) : Host.Outcome State Fault Refusal :=
  runForm (formIndexedAluHalf .iy f h) s

/-- R317 `alu A,(IY+d)`. -/
def execAluAIyd (f : Alu) (s : State) : Host.Outcome State Fault Refusal := runForm (formIndexedAluInd .iy f) s

/-- R319 `POP IY`. -/
def execPopIy (s : State) : Host.Outcome State Fault Refusal := runForm (formIndexedPop .iy) s

/-- R323 `EX (SP),IY`. -/
def execExIndSpIy (s : State) : Host.Outcome State Fault Refusal := runForm (formIndexedExIndSp .iy) s

/-- R320 `PUSH IY`. -/
def execPushIy (s : State) : Host.Outcome State Fault Refusal := runForm (formIndexedPush .iy) s

/-- R321 `JP (IY)`. -/
def execJpIndIy (s : State) : Host.Outcome State Fault Refusal := runForm (formIndexedJpInd .iy) s

/-- R322 `LD SP,IY`. -/
def execLdSpIy (s : State) : Host.Outcome State Fault Refusal := runForm (formIndexedLdSp .iy) s

end Sys2Proof.Machine
end

