-- ==== Sys2Proof/Machine/Prefixes.lean ====
section
/-! DEFINITION. The prefix rows (30_encoding.md R113 to R117): each meaning is one read and the phase transition of R112. -/

namespace Sys2Proof.Machine

/-- The register set an index prefix selects (R115). -/
def regSetOf : IndexReg → RegSet
  | .ix => .ix
  | .iy => .iy

/-- The phase after an index prefix (R115). -/
def phaseAfterIndex : IndexReg → Phase
  | .ix => .afterDD
  | .iy => .afterFD

/-- R114: a mode-select byte is accepted and sets the suffix. -/
def execModeSelect (sfx : Suffix) (s : State) : Host.Outcome State Fault Refusal :=
  withRead s fun b => .next { s.accept b with suffix := sfx, phase := .afterModeSelect }

/-- R115: an index prefix is accepted and sets the register set. -/
def execIndexPrefix (x : IndexReg) (s : State) : Host.Outcome State Fault Refusal :=
  withRead s fun b => .next { s.accept b with regSet := regSetOf x, phase := phaseAfterIndex x }

/-- R117: CB is accepted. With an index prefix and `DDCB_POLICY = Indexed` the row goes on to fetch the displacement, in
phase `AfterIndexCB` (42_cb_page.md R362). -/
def execCbPrefix (s : State) : Host.Outcome State Fault Refusal :=
  withRead s fun b =>
    if s.phase = .afterIndexCB then .next (s.latchD b)
    else if s.regSet ≠ .hl ∧ s.params.ddcbPolicy = .indexed then .next { s.accept b with phase := .afterIndexCB }
    else .next { s.accept b with phase := .afterCB }

/-- R116: ED is accepted. -/
def execEdPrefix (s : State) : Host.Outcome State Fault Refusal :=
  withRead s fun b => .next { s.accept b with phase := .afterED }

/-- R113 `EndPrefixOnly`: the byte is read and not accepted; the instruction ends with the bytes before it. -/
def execPrefixOnly (s : State) : Host.Outcome State Fault Refusal :=
  withRead s fun _ => .next (s.finish .prefixOnly none "")

end Sys2Proof.Machine
end

