-- ==== Sys2Proof/Machine/Dispatch.lean ====
section
/-! DEFINITION. One arm per row of the opcode table: the meaning of each. -/

namespace Sys2Proof.Machine

def exec (i : Instr) (s : State) : Host.Outcome State Fault Refusal :=
  match i with
  | .modeSelect sfx => Sys2Proof.Machine.execModeSelect sfx s
  | .indexPrefix x => Sys2Proof.Machine.execIndexPrefix x s
  | .cbPrefix => Sys2Proof.Machine.execCbPrefix s
  | .edPrefix => Sys2Proof.Machine.execEdPrefix s
  | .prefixOnly => Sys2Proof.Machine.execPrefixOnly s
  | .nop => Sys2Proof.Machine.execNop s
  | .ldRrNn rr => Sys2Proof.Machine.execLdRrNn rr s
  | .ldIndBcA => Sys2Proof.Machine.execLdIndBcA s
  | .incRr rr => Sys2Proof.Machine.execIncRr rr s
  | .incR r => Sys2Proof.Machine.execIncR r s
  | .decR r => Sys2Proof.Machine.execDecR r s
  | .ldRN r => Sys2Proof.Machine.execLdRN r s
  | .rlca => Sys2Proof.Machine.execRlca s
  | .exAfAf => Sys2Proof.Machine.execExAfAf s
  | .addHlRr rr => Sys2Proof.Machine.execAddHlRr rr s
  | .ldAIndBc => Sys2Proof.Machine.execLdAIndBc s
  | .decRr rr => Sys2Proof.Machine.execDecRr rr s
  | .rrca => Sys2Proof.Machine.execRrca s
  | .djnz => Sys2Proof.Machine.execDjnz s
  | .ldIndDeA => Sys2Proof.Machine.execLdIndDeA s
  | .rla => Sys2Proof.Machine.execRla s
  | .jr => Sys2Proof.Machine.execJr s
  | .ldAIndDe => Sys2Proof.Machine.execLdAIndDe s
  | .rra => Sys2Proof.Machine.execRra s
  | .jrCc cc => Sys2Proof.Machine.execJrCc cc s
  | .ldMemHl => Sys2Proof.Machine.execLdMemHl s
  | .daa => Sys2Proof.Machine.execDaa s
  | .ldHlMem => Sys2Proof.Machine.execLdHlMem s
  | .cpl => Sys2Proof.Machine.execCpl s
  | .ldMemA => Sys2Proof.Machine.execLdMemA s
  | .scf => Sys2Proof.Machine.execScf s
  | .ldAMem => Sys2Proof.Machine.execLdAMem s
  | .ccf => Sys2Proof.Machine.execCcf s
  | .ldRR dst src => Sys2Proof.Machine.execLdRR dst src s
  | .halt => Sys2Proof.Machine.execHalt s
  | .addAR r => Sys2Proof.Machine.execAddAR r s
  | .adcAR r => Sys2Proof.Machine.execAdcAR r s
  | .subAR r => Sys2Proof.Machine.execSubAR r s
  | .sbcAR r => Sys2Proof.Machine.execSbcAR r s
  | .andAR r => Sys2Proof.Machine.execAndAR r s
  | .xorAR r => Sys2Proof.Machine.execXorAR r s
  | .orAR r => Sys2Proof.Machine.execOrAR r s
  | .cpAR r => Sys2Proof.Machine.execCpAR r s
  | .retCc cc => Sys2Proof.Machine.execRetCc cc s
  | .popQq qq => Sys2Proof.Machine.execPopQq qq s
  | .jpCcNn cc => Sys2Proof.Machine.execJpCcNn cc s
  | .jpNn => Sys2Proof.Machine.execJpNn s
  | .callCcNn cc => Sys2Proof.Machine.execCallCcNn cc s
  | .pushQq qq => Sys2Proof.Machine.execPushQq qq s
  | .addAN => Sys2Proof.Machine.execAddAN s
  | .rst t => Sys2Proof.Machine.execRst t s
  | .ret => Sys2Proof.Machine.execRet s
  | .callNn => Sys2Proof.Machine.execCallNn s
  | .adcAN => Sys2Proof.Machine.execAdcAN s
  | .outNA => Sys2Proof.Machine.execOutNA s
  | .subAN => Sys2Proof.Machine.execSubAN s
  | .exx => Sys2Proof.Machine.execExx s
  | .inAN => Sys2Proof.Machine.execInAN s
  | .sbcAN => Sys2Proof.Machine.execSbcAN s
  | .exIndSpHl => Sys2Proof.Machine.execExIndSpHl s
  | .andAN => Sys2Proof.Machine.execAndAN s
  | .jpIndHl => Sys2Proof.Machine.execJpIndHl s
  | .exDeHl => Sys2Proof.Machine.execExDeHl s
  | .xorAN => Sys2Proof.Machine.execXorAN s
  | .di => Sys2Proof.Machine.execDi s
  | .orAN => Sys2Proof.Machine.execOrAN s
  | .ldSpHl => Sys2Proof.Machine.execLdSpHl s
  | .ei => Sys2Proof.Machine.execEi s
  | .cpAN => Sys2Proof.Machine.execCpAN s
  | .baseIxIgnored op => Sys2Proof.Machine.execBaseIxIgnored op s
  | .ldRrIxd rr => Sys2Proof.Machine.execLdRrIxd rr s
  | .addIxRr rr => Sys2Proof.Machine.execAddIxRr rr s
  | .ldIxdRr rr => Sys2Proof.Machine.execLdIxdRr rr s
  | .ldIxNn => Sys2Proof.Machine.execLdIxNn s
  | .ldMemIx => Sys2Proof.Machine.execLdMemIx s
  | .incIx => Sys2Proof.Machine.execIncIx s
  | .incIxHalf h => Sys2Proof.Machine.execIncIxHalf h s
  | .decIxHalf h => Sys2Proof.Machine.execDecIxHalf h s
  | .ldIxHalfN h => Sys2Proof.Machine.execLdIxHalfN h s
  | .ldIxMem => Sys2Proof.Machine.execLdIxMem s
  | .decIx => Sys2Proof.Machine.execDecIx s
  | .ldOtherIxd => Sys2Proof.Machine.execLdOtherIxd s
  | .incIxd => Sys2Proof.Machine.execIncIxd s
  | .decIxd => Sys2Proof.Machine.execDecIxd s
  | .ldIxdN => Sys2Proof.Machine.execLdIxdN s
  | .ldIxIxd => Sys2Proof.Machine.execLdIxIxd s
  | .ldIxdOther => Sys2Proof.Machine.execLdIxdOther s
  | .ldIxdIx => Sys2Proof.Machine.execLdIxdIx s
  | .ldIxHalves dst src => Sys2Proof.Machine.execLdIxHalves dst src s
  | .ldRIxd r => Sys2Proof.Machine.execLdRIxd r s
  | .ldIxdR r => Sys2Proof.Machine.execLdIxdR r s
  | .aluAIxHalf f h => Sys2Proof.Machine.execAluAIxHalf f h s
  | .aluAIxd f => Sys2Proof.Machine.execAluAIxd f s
  | .popIx => Sys2Proof.Machine.execPopIx s
  | .exIndSpIx => Sys2Proof.Machine.execExIndSpIx s
  | .pushIx => Sys2Proof.Machine.execPushIx s
  | .jpIndIx => Sys2Proof.Machine.execJpIndIx s
  | .ldSpIx => Sys2Proof.Machine.execLdSpIx s
  | .baseIyIgnored op => Sys2Proof.Machine.execBaseIyIgnored op s
  | .ldRrIyd rr => Sys2Proof.Machine.execLdRrIyd rr s
  | .addIyRr rr => Sys2Proof.Machine.execAddIyRr rr s
  | .ldIydRr rr => Sys2Proof.Machine.execLdIydRr rr s
  | .ldIyNn => Sys2Proof.Machine.execLdIyNn s
  | .ldMemIy => Sys2Proof.Machine.execLdMemIy s
  | .incIy => Sys2Proof.Machine.execIncIy s
  | .incIyHalf h => Sys2Proof.Machine.execIncIyHalf h s
  | .decIyHalf h => Sys2Proof.Machine.execDecIyHalf h s
  | .ldIyHalfN h => Sys2Proof.Machine.execLdIyHalfN h s
  | .ldIyMem => Sys2Proof.Machine.execLdIyMem s
  | .decIy => Sys2Proof.Machine.execDecIy s
  | .ldOtherIyd => Sys2Proof.Machine.execLdOtherIyd s
  | .incIyd => Sys2Proof.Machine.execIncIyd s
  | .decIyd => Sys2Proof.Machine.execDecIyd s
  | .ldIydN => Sys2Proof.Machine.execLdIydN s
  | .ldIyIyd => Sys2Proof.Machine.execLdIyIyd s
  | .ldIydOther => Sys2Proof.Machine.execLdIydOther s
  | .ldIydIy => Sys2Proof.Machine.execLdIydIy s
  | .ldIyHalves dst src => Sys2Proof.Machine.execLdIyHalves dst src s
  | .ldRIyd r => Sys2Proof.Machine.execLdRIyd r s
  | .ldIydR r => Sys2Proof.Machine.execLdIydR r s
  | .aluAIyHalf f h => Sys2Proof.Machine.execAluAIyHalf f h s
  | .aluAIyd f => Sys2Proof.Machine.execAluAIyd f s
  | .popIy => Sys2Proof.Machine.execPopIy s
  | .exIndSpIy => Sys2Proof.Machine.execExIndSpIy s
  | .pushIy => Sys2Proof.Machine.execPushIy s
  | .jpIndIy => Sys2Proof.Machine.execJpIndIy s
  | .ldSpIy => Sys2Proof.Machine.execLdSpIy s
  | .rlcR r => Sys2Proof.Machine.execRlcR r s
  | .rrcR r => Sys2Proof.Machine.execRrcR r s
  | .rlR r => Sys2Proof.Machine.execRlR r s
  | .rrR r => Sys2Proof.Machine.execRrR r s
  | .slaR r => Sys2Proof.Machine.execSlaR r s
  | .sraR r => Sys2Proof.Machine.execSraR r s
  | .sllR r => Sys2Proof.Machine.execSllR r s
  | .srlR r => Sys2Proof.Machine.execSrlR r s
  | .bitBR b r => Sys2Proof.Machine.execBitBR b r s
  | .resBR b r => Sys2Proof.Machine.execResBR b r s
  | .setBR b r => Sys2Proof.Machine.execSetBR b r s
  | .unrepIxCb op => Sys2Proof.Machine.execUnrepIxCb op s
  | .rlcIxd => Sys2Proof.Machine.execRlcIxd s
  | .rrcIxd => Sys2Proof.Machine.execRrcIxd s
  | .rlIxd => Sys2Proof.Machine.execRlIxd s
  | .rrIxd => Sys2Proof.Machine.execRrIxd s
  | .slaIxd => Sys2Proof.Machine.execSlaIxd s
  | .sraIxd => Sys2Proof.Machine.execSraIxd s
  | .sllIxd => Sys2Proof.Machine.execSllIxd s
  | .srlIxd => Sys2Proof.Machine.execSrlIxd s
  | .bitBIxd b => Sys2Proof.Machine.execBitBIxd b s
  | .resBIxd b => Sys2Proof.Machine.execResBIxd b s
  | .setBIxd b => Sys2Proof.Machine.execSetBIxd b s
  | .unrepIyCb op => Sys2Proof.Machine.execUnrepIyCb op s
  | .rlcIyd => Sys2Proof.Machine.execRlcIyd s
  | .rrcIyd => Sys2Proof.Machine.execRrcIyd s
  | .rlIyd => Sys2Proof.Machine.execRlIyd s
  | .rrIyd => Sys2Proof.Machine.execRrIyd s
  | .slaIyd => Sys2Proof.Machine.execSlaIyd s
  | .sraIyd => Sys2Proof.Machine.execSraIyd s
  | .sllIyd => Sys2Proof.Machine.execSllIyd s
  | .srlIyd => Sys2Proof.Machine.execSrlIyd s
  | .bitBIyd b => Sys2Proof.Machine.execBitBIyd b s
  | .resBIyd b => Sys2Proof.Machine.execResBIyd b s
  | .setBIyd b => Sys2Proof.Machine.execSetBIyd b s
  | .in0RN r => Sys2Proof.Machine.execIn0RN r s
  | .out0NR r => Sys2Proof.Machine.execOut0NR r s
  | .leaRrIxd rr => Sys2Proof.Machine.execLeaRrIxd rr s
  | .leaRrIyd rr => Sys2Proof.Machine.execLeaRrIyd rr s
  | .tstAR r => Sys2Proof.Machine.execTstAR r s
  | .unrepEd op => Sys2Proof.Machine.execUnrepEd op s
  | .ldRrIndHl rr => Sys2Proof.Machine.execLdRrIndHl rr s
  | .ldIndHlRr rr => Sys2Proof.Machine.execLdIndHlRr rr s
  | .ldIyIndHl => Sys2Proof.Machine.execLdIyIndHl s
  | .ldIndHlIy => Sys2Proof.Machine.execLdIndHlIy s
  | .inRC r => Sys2Proof.Machine.execInRC r s
  | .outCR r => Sys2Proof.Machine.execOutCR r s
  | .sbcHlRr rr => Sys2Proof.Machine.execSbcHlRr rr s
  | .ldMemRr rr => Sys2Proof.Machine.execLdMemRr rr s
  | .neg => Sys2Proof.Machine.execNeg s
  | .retn => Sys2Proof.Machine.execRetn s
  | .im0 => Sys2Proof.Machine.execIm0 s
  | .ldIA => Sys2Proof.Machine.execLdIA s
  | .adcHlRr rr => Sys2Proof.Machine.execAdcHlRr rr s
  | .ldRrMem rr => Sys2Proof.Machine.execLdRrMem rr s
  | .mltRr rr => Sys2Proof.Machine.execMltRr rr s
  | .reti => Sys2Proof.Machine.execReti s
  | .ldRefreshA => Sys2Proof.Machine.execLdRefreshA s
  | .leaIxIyd => Sys2Proof.Machine.execLeaIxIyd s
  | .leaIyIxd => Sys2Proof.Machine.execLeaIyIxd s
  | .im1 => Sys2Proof.Machine.execIm1 s
  | .ldAI => Sys2Proof.Machine.execLdAI s
  | .im2 => Sys2Proof.Machine.execIm2 s
  | .ldARefresh => Sys2Proof.Machine.execLdARefresh s
  | .tstAN => Sys2Proof.Machine.execTstAN s
  | .peaIxd => Sys2Proof.Machine.execPeaIxd s
  | .peaIyd => Sys2Proof.Machine.execPeaIyd s
  | .rrd => Sys2Proof.Machine.execRrd s
  | .ldMbA => Sys2Proof.Machine.execLdMbA s
  | .ldAMb => Sys2Proof.Machine.execLdAMb s
  | .rld => Sys2Proof.Machine.execRld s
  | .tstioN => Sys2Proof.Machine.execTstioN s
  | .slp => Sys2Proof.Machine.execSlp s
  | .stmix => Sys2Proof.Machine.execStmix s
  | .rsmix => Sys2Proof.Machine.execRsmix s
  | .unrepEdBlock op => Sys2Proof.Machine.execUnrepEdBlock op s
  | .inim => Sys2Proof.Machine.execInim s
  | .otim => Sys2Proof.Machine.execOtim s
  | .ini2 => Sys2Proof.Machine.execIni2 s
  | .indm => Sys2Proof.Machine.execIndm s
  | .otdm => Sys2Proof.Machine.execOtdm s
  | .ind2 => Sys2Proof.Machine.execInd2 s
  | .inimr => Sys2Proof.Machine.execInimr s
  | .otimr => Sys2Proof.Machine.execOtimr s
  | .ini2r => Sys2Proof.Machine.execIni2r s
  | .indmr => Sys2Proof.Machine.execIndmr s
  | .otdmr => Sys2Proof.Machine.execOtdmr s
  | .ind2r => Sys2Proof.Machine.execInd2r s
  | .ldi => Sys2Proof.Machine.execLdi s
  | .cpi => Sys2Proof.Machine.execCpi s
  | .ini => Sys2Proof.Machine.execIni s
  | .outi => Sys2Proof.Machine.execOuti s
  | .outi2 => Sys2Proof.Machine.execOuti2 s
  | .ldd => Sys2Proof.Machine.execLdd s
  | .cpd => Sys2Proof.Machine.execCpd s
  | .ind => Sys2Proof.Machine.execInd s
  | .outd => Sys2Proof.Machine.execOutd s
  | .outd2 => Sys2Proof.Machine.execOutd2 s
  | .ldir => Sys2Proof.Machine.execLdir s
  | .cpir => Sys2Proof.Machine.execCpir s
  | .inir => Sys2Proof.Machine.execInir s
  | .otir => Sys2Proof.Machine.execOtir s
  | .oti2r => Sys2Proof.Machine.execOti2r s
  | .lddr => Sys2Proof.Machine.execLddr s
  | .cpdr => Sys2Proof.Machine.execCpdr s
  | .indr => Sys2Proof.Machine.execIndr s
  | .otdr => Sys2Proof.Machine.execOtdr s
  | .otd2r => Sys2Proof.Machine.execOtd2r s
  | .inirx => Sys2Proof.Machine.execInirx s
  | .otirx => Sys2Proof.Machine.execOtirx s
  | .ldIHl => Sys2Proof.Machine.execLdIHl s
  | .indrx => Sys2Proof.Machine.execIndrx s
  | .otdrx => Sys2Proof.Machine.execOtdrx s
  | .ldHlI => Sys2Proof.Machine.execLdHlI s

end Sys2Proof.Machine
end

