-- ==== Sys2Proof/Machine/Fetch.lean ====
section
/-! DEFINITION. Which row the next read belongs to (30_encoding.md R110 to R118), and placing bytes in the stream. -/

namespace Sys2Proof.Machine

/-- The index register of a register set. -/
def indexOf : RegSet → Option IndexReg
  | .hl => none
  | .ix => some .ix
  | .iy => some .iy

/-- The context of a byte that is read as a prefix or an opcode, from the phase (R110, R112, R118). -/
def State.ctx (s : State) : Ctx :=
  match s.phase with
  | .afterCB => .cb
  | .afterED => .ed
  | .afterIndexCB =>
    match indexOf s.regSet with
    | some x => .indexCb x
    | none => .cb
  | .noPrefix | .afterModeSelect | .afterDD | .afterFD | .operands | .complete => .base s.msSeen s.regSet

/-- The context in which the latched opcode byte was read. -/
def latchedCtx (page : Page) (rs : RegSet) : Ctx :=
  match page with
  | .base => .base false rs
  | .ed => .ed
  | .cb => .cb
  | .indexCb =>
    match indexOf rs with
    | some x => .indexCb x
    | none => .cb

/-- The row the next read belongs to: the latched one while operands are to be fetched; the CB prefix row while it still
fetches its displacement (R117, 42_cb_page.md R362); else the row the byte at `cursor` selects. `ok none`: that byte may not
be read. `error`: phase `Operands` with no opcode latched, which no step reaches. -/
def State.nextInstr (s : State) : Except Fault (Option Instr) :=
  match s.phase with
  | .operands =>
    match s.page, s.op with
    | some p, some o => .ok (some (classify (latchedCtx p s.regSet) o))
    | _, _ => .error .latchNotWritten
  | .afterIndexCB => if s.d = none then .ok (some .cbPrefix) else .ok (s.read.map (classify s.ctx))
  | .noPrefix | .afterModeSelect | .afterDD | .afterFD | .afterCB | .afterED | .complete =>
    .ok (s.read.map (classify s.ctx))

/-- Lay bytes out from an address on, mod 2^24 (20_memory.md R77, R79). -/
def placeBytes (m : Memory) (a : Addr) : List Byte → Memory
  | [] => m
  | b :: bs => placeBytes (memWrite m a.toNat b) (a + 1) bs

/-- A machine about to read its next instruction at `cursor`, with these bytes there and a budget that covers the longest
instruction: what a start leaves (70_reset_and_hazards.md R701, R702), the stream readable and the policy the default one
(assumption log 13). -/
def State.readyWith (s : State) (bytes : List Byte) : State :=
  { s with
    stream := placeBytes s.stream s.cursor (bytes ++ List.replicate (6 - bytes.length) 0)
    params := { s.params with ddcbPolicy := .indexed, unreadable := [] }
    remaining := 6, fault := .none, runState := .running, inbox := [] }.beginInstr

end Sys2Proof.Machine
end

