-- ==== Sys2Proof/Machine/Step.lean ====
section
/-! DEFINITION. One step (70_reset_and_hazards.md R708, decision D2): one stream read with its classification, or one request
of the host. -/

namespace Sys2Proof.Machine

/-- One read of a running block: the row it belongs to runs; an unreadable byte that would have selected one is the stream
fault (60_exceptions.md R601: the read happens before the byte is classified). -/
def runStep (s : State) : Host.Outcome State Fault Refusal :=
  match s.nextInstr with
  | .error f => .fault f
  | .ok none => .next s.raiseStreamFault
  | .ok (some i) => exec i s

/-- A completed instruction is followed by the instruction start of the next (30_encoding.md R140, R141; R702). -/
def State.settled (s : State) : State := if s.phase = .complete then s.beginInstr else s

/-- One step. With a request waiting it serves the request; with a run active it makes one read; else nothing happens: `Idle`,
`Done` and `Faulted` stay until a start (10_state.md R42; assumption log 9). -/
def step (s : State) : Host.Outcome State Fault Refusal :=
  match s.inbox with
  | ev :: rest => serveHost ev { s with inbox := rest }
  | [] => if s.runState = .running then runStep s.settled else .next s

/-- The reads of the bytes before the one that selects the row of a table word. -/
def runLead : Nat → State → State
  | 0, s => s
  | k + 1, s =>
    match step s with
    | .next t => runLead k t
    | .fault _ => s
    | .refused _ => s

/-- `s` with the instruction of a table word at `cursor`, its leading prefix bytes (if the word has any before its opcode)
already read, so that the very next step reads the byte that selects the row (assumption log 13). -/
def State.withFetchWord (s : State) (nbits w : Nat) : State :=
  let bytes := wordBytes ((nbits + 7) / 8) w
  runLead (leadLength (.base false .hl) bytes) (s.readyWith bytes)

end Sys2Proof.Machine
end

