-- ==== Sys2Proof/Machine/Forms.lean ====
section
/-! DEFINITION. The form of every row that has one, in one table, for statements about all rows; the meanings do not use it. -/

namespace Sys2Proof.Machine

/-- The form a row runs, with the keyword parameter `k`; none for the prefix rows, and for a row of R301 whose byte is no
opcode. -/
def formOf (k : CbY7Mnemonic) (i : Instr) : Option Form :=
  match i with
  | .modeSelect _ => none
  | .indexPrefix _ => none
  | .cbPrefix => none
  | .edPrefix => none
  | .prefixOnly => none
  | .nop => some formNop
  | .ldRrNn rr => some (formLdRrNn rr)
  | .ldIndBcA => some formLdIndBcA
  | .incRr rr => some (formIncRr rr)
  | .incR r => some (formIncR r)
  | .decR r => some (formDecR r)
  | .ldRN r => some (formLdRN r)
  | .rlca => some formRlca
  | .exAfAf => some formExAfAf
  | .addHlRr rr => some (formAddHlRr rr)
  | .ldAIndBc => some formLdAIndBc
  | .decRr rr => some (formDecRr rr)
  | .rrca => some formRrca
  | .djnz => some formDjnz
  | .ldIndDeA => some formLdIndDeA
  | .rla => some formRla
  | .jr => some formJr
  | .ldAIndDe => some formLdAIndDe
  | .rra => some formRra
  | .jrCc cc => some (formJrCc cc)
  | .ldMemHl => some formLdMemHl
  | .daa => some formDaa
  | .ldHlMem => some formLdHlMem
  | .cpl => some formCpl
  | .ldMemA => some formLdMemA
  | .scf => some formScf
  | .ldAMem => some formLdAMem
  | .ccf => some formCcf
  | .ldRR dst src => some (formLdRR dst src)
  | .halt => some formHalt
  | .addAR r => some (formAddAR r)
  | .adcAR r => some (formAdcAR r)
  | .subAR r => some (formSubAR r)
  | .sbcAR r => some (formSbcAR r)
  | .andAR r => some (formAndAR r)
  | .xorAR r => some (formXorAR r)
  | .orAR r => some (formOrAR r)
  | .cpAR r => some (formCpAR r)
  | .retCc cc => some (formRetCc cc)
  | .popQq qq => some (formPopQq qq)
  | .jpCcNn cc => some (formJpCcNn cc)
  | .jpNn => some formJpNn
  | .callCcNn cc => some (formCallCcNn cc)
  | .pushQq qq => some (formPushQq qq)
  | .addAN => some formAddAN
  | .rst t => some (formRst t)
  | .ret => some formRet
  | .callNn => some formCallNn
  | .adcAN => some formAdcAN
  | .outNA => some formOutNA
  | .subAN => some formSubAN
  | .exx => some formExx
  | .inAN => some formInAN
  | .sbcAN => some formSbcAN
  | .exIndSpHl => some formExIndSpHl
  | .andAN => some formAndAN
  | .jpIndHl => some formJpIndHl
  | .exDeHl => some formExDeHl
  | .xorAN => some formXorAN
  | .di => some formDi
  | .orAN => some formOrAN
  | .ldSpHl => some formLdSpHl
  | .ei => some formEi
  | .cpAN => some formCpAN
  | .baseIxIgnored op => formIgnored op
  | .ldRrIxd rr => some (formIndexedLdRrInd .ix rr)
  | .addIxRr rr => some (formIndexedAddRr .ix rr)
  | .ldIxdRr rr => some (formIndexedLdIndRr .ix rr)
  | .ldIxNn => some (formIndexedLdNn .ix)
  | .ldMemIx => some (formIndexedLdMem .ix)
  | .incIx => some (formIndexedInc .ix)
  | .incIxHalf h => some (formIndexedIncHalf .ix h)
  | .decIxHalf h => some (formIndexedDecHalf .ix h)
  | .ldIxHalfN h => some (formIndexedLdHalfN .ix h)
  | .ldIxMem => some (formIndexedLdFromMem .ix)
  | .decIx => some (formIndexedDec .ix)
  | .ldOtherIxd => some (formIndexedLdOtherInd .ix)
  | .incIxd => some (formIndexedIncInd .ix)
  | .decIxd => some (formIndexedDecInd .ix)
  | .ldIxdN => some (formIndexedLdIndN .ix)
  | .ldIxIxd => some (formIndexedLdSelfInd .ix)
  | .ldIxdOther => some (formIndexedLdIndOther .ix)
  | .ldIxdIx => some (formIndexedLdIndSelf .ix)
  | .ldIxHalves dst src => some (formIndexedLdHalves .ix dst src)
  | .ldRIxd r => some (formIndexedLdRInd .ix r)
  | .ldIxdR r => some (formIndexedLdIndR .ix r)
  | .aluAIxHalf f h => some (formIndexedAluHalf .ix f h)
  | .aluAIxd f => some (formIndexedAluInd .ix f)
  | .popIx => some (formIndexedPop .ix)
  | .exIndSpIx => some (formIndexedExIndSp .ix)
  | .pushIx => some (formIndexedPush .ix)
  | .jpIndIx => some (formIndexedJpInd .ix)
  | .ldSpIx => some (formIndexedLdSp .ix)
  | .baseIyIgnored op => formIgnored op
  | .ldRrIyd rr => some (formIndexedLdRrInd .iy rr)
  | .addIyRr rr => some (formIndexedAddRr .iy rr)
  | .ldIydRr rr => some (formIndexedLdIndRr .iy rr)
  | .ldIyNn => some (formIndexedLdNn .iy)
  | .ldMemIy => some (formIndexedLdMem .iy)
  | .incIy => some (formIndexedInc .iy)
  | .incIyHalf h => some (formIndexedIncHalf .iy h)
  | .decIyHalf h => some (formIndexedDecHalf .iy h)
  | .ldIyHalfN h => some (formIndexedLdHalfN .iy h)
  | .ldIyMem => some (formIndexedLdFromMem .iy)
  | .decIy => some (formIndexedDec .iy)
  | .ldOtherIyd => some (formIndexedLdOtherInd .iy)
  | .incIyd => some (formIndexedIncInd .iy)
  | .decIyd => some (formIndexedDecInd .iy)
  | .ldIydN => some (formIndexedLdIndN .iy)
  | .ldIyIyd => some (formIndexedLdSelfInd .iy)
  | .ldIydOther => some (formIndexedLdIndOther .iy)
  | .ldIydIy => some (formIndexedLdIndSelf .iy)
  | .ldIyHalves dst src => some (formIndexedLdHalves .iy dst src)
  | .ldRIyd r => some (formIndexedLdRInd .iy r)
  | .ldIydR r => some (formIndexedLdIndR .iy r)
  | .aluAIyHalf f h => some (formIndexedAluHalf .iy f h)
  | .aluAIyd f => some (formIndexedAluInd .iy f)
  | .popIy => some (formIndexedPop .iy)
  | .exIndSpIy => some (formIndexedExIndSp .iy)
  | .pushIy => some (formIndexedPush .iy)
  | .jpIndIy => some (formIndexedJpInd .iy)
  | .ldSpIy => some (formIndexedLdSp .iy)
  | .rlcR r => some (formRlcR r)
  | .rrcR r => some (formRrcR r)
  | .rlR r => some (formRlR r)
  | .rrR r => some (formRrR r)
  | .slaR r => some (formSlaR r)
  | .sraR r => some (formSraR r)
  | .sllR r => some (formSllR r)
  | .srlR r => some (formSrlR k r)
  | .bitBR b r => some (formBitBR b r)
  | .resBR b r => some (formResBR b r)
  | .setBR b r => some (formSetBR b r)
  | .unrepIxCb _ => some formIndexedCbUnrep
  | .rlcIxd => some (formIndexedCbRlc .ix)
  | .rrcIxd => some (formIndexedCbRrc .ix)
  | .rlIxd => some (formIndexedCbRl .ix)
  | .rrIxd => some (formIndexedCbRr .ix)
  | .slaIxd => some (formIndexedCbSla .ix)
  | .sraIxd => some (formIndexedCbSra .ix)
  | .sllIxd => some (formIndexedCbSll .ix)
  | .srlIxd => some (formIndexedCbSrl k .ix)
  | .bitBIxd b => some (formIndexedCbBit .ix b)
  | .resBIxd b => some (formIndexedCbRes .ix b)
  | .setBIxd b => some (formIndexedCbSet .ix b)
  | .unrepIyCb _ => some formIndexedCbUnrep
  | .rlcIyd => some (formIndexedCbRlc .iy)
  | .rrcIyd => some (formIndexedCbRrc .iy)
  | .rlIyd => some (formIndexedCbRl .iy)
  | .rrIyd => some (formIndexedCbRr .iy)
  | .slaIyd => some (formIndexedCbSla .iy)
  | .sraIyd => some (formIndexedCbSra .iy)
  | .sllIyd => some (formIndexedCbSll .iy)
  | .srlIyd => some (formIndexedCbSrl k .iy)
  | .bitBIyd b => some (formIndexedCbBit .iy b)
  | .resBIyd b => some (formIndexedCbRes .iy b)
  | .setBIyd b => some (formIndexedCbSet .iy b)
  | .in0RN r => some (formIn0RN r)
  | .out0NR r => some (formOut0NR r)
  | .leaRrIxd rr => some (formLeaRrIxd rr)
  | .leaRrIyd rr => some (formLeaRrIyd rr)
  | .tstAR r => some (formTstAR r)
  | .unrepEd _ => some formUnrepEd
  | .ldRrIndHl rr => some (formLdRrIndHl rr)
  | .ldIndHlRr rr => some (formLdIndHlRr rr)
  | .ldIyIndHl => some formLdIyIndHl
  | .ldIndHlIy => some formLdIndHlIy
  | .inRC r => some (formInRC r)
  | .outCR r => some (formOutCR r)
  | .sbcHlRr rr => some (formSbcHlRr rr)
  | .ldMemRr rr => some (formLdMemRr rr)
  | .neg => some formNeg
  | .retn => some formRetn
  | .im0 => some formIm0
  | .ldIA => some formLdIA
  | .adcHlRr rr => some (formAdcHlRr rr)
  | .ldRrMem rr => some (formLdRrMem rr)
  | .mltRr rr => some (formMltRr rr)
  | .reti => some formReti
  | .ldRefreshA => some formLdRefreshA
  | .leaIxIyd => some formLeaIxIyd
  | .leaIyIxd => some formLeaIyIxd
  | .im1 => some formIm1
  | .ldAI => some formLdAI
  | .im2 => some formIm2
  | .ldARefresh => some formLdARefresh
  | .tstAN => some formTstAN
  | .peaIxd => some formPeaIxd
  | .peaIyd => some formPeaIyd
  | .rrd => some formRrd
  | .ldMbA => some formLdMbA
  | .ldAMb => some formLdAMb
  | .rld => some formRld
  | .tstioN => some formTstioN
  | .slp => some formSlp
  | .stmix => some formStmix
  | .rsmix => some formRsmix
  | .unrepEdBlock _ => some formUnrepEdBlock
  | .inim => some formInim
  | .otim => some formOtim
  | .ini2 => some formIni2
  | .indm => some formIndm
  | .otdm => some formOtdm
  | .ind2 => some formInd2
  | .inimr => some formInimr
  | .otimr => some formOtimr
  | .ini2r => some formIni2r
  | .indmr => some formIndmr
  | .otdmr => some formOtdmr
  | .ind2r => some formInd2r
  | .ldi => some formLdi
  | .cpi => some formCpi
  | .ini => some formIni
  | .outi => some formOuti
  | .outi2 => some formOuti2
  | .ldd => some formLdd
  | .cpd => some formCpd
  | .ind => some formInd
  | .outd => some formOutd
  | .outd2 => some formOutd2
  | .ldir => some formLdir
  | .cpir => some formCpir
  | .inir => some formInir
  | .otir => some formOtir
  | .oti2r => some formOti2r
  | .lddr => some formLddr
  | .cpdr => some formCpdr
  | .indr => some formIndr
  | .otdr => some formOtdr
  | .otd2r => some formOtd2r
  | .inirx => some formInirx
  | .otirx => some formOtirx
  | .ldIHl => some formLdIHl
  | .indrx => some formIndrx
  | .otdrx => some formOtdrx
  | .ldHlI => some formLdHlI

end Sys2Proof.Machine
end

