-- ==== Sys2Proof/Safety.lean ====
section
/-! DEFINITION. The terms the statements use: what the block's state is between steps (10_state.md R47), what a run is, and
what a row leaves when it completes, written out from the rules and not through the operations of Machine/Ops.lean. -/

namespace Sys2Proof.Machine

-- Runs

/-- `k` steps, as long as each answers a next state. -/
def stepTimes : Nat → State → Host.Outcome State Fault Refusal
  | 0, s => .next s
  | k + 1, s =>
    match step s with
    | .next t => stepTimes k t
    | .fault r => .fault r
    | .refused r => .refused r

/-- `k` reads of one row. -/
def execTimes : Nat → Instr → State → Host.Outcome State Fault Refusal
  | 0, _, s => .next s
  | k + 1, i, s =>
    match exec i s with
    | .next t => execTimes k i t
    | .fault r => .fault r
    | .refused r => .refused r

/-- A run that ended well (60_exceptions.md R602 (e)): a faulted run is no completed run. -/
abbrev State.completedRun (s : State) : Prop := s.runState = .done ∧ s.fault = .none

-- The state between steps

/-- How many of the two prefix classes of base-page position have been taken (R37). -/
def State.prefixCount (s : State) : Nat := s.msSeen.toNat + s.idxSeen.toNat

/-- The most operand bytes a recipe fetches (30_encoding.md R120, R122). -/
def recipeMax : Recipe → Nat
  | .none => 0
  | .n => 1
  | .d => 1
  | .e => 1
  | .w => 3
  | .dn => 2

/-- What a running block holds in each phase (30_encoding.md R112, R121): the bytes accepted so far are the prefix bytes
taken, then the page byte, then the displacement of an indexed CB, or the opcode and operand bytes. -/
def State.Shape (s : State) : Prop :=
  match s.phase with
  | .noPrefix => s.rawBytes = [] ∧ s.suffix = .none ∧ s.regSet = .hl ∧ s.d = none
  | .afterModeSelect => s.byteLength = s.prefixCount ∧ s.suffix ≠ .none ∧ s.d = none
  | .afterDD => s.byteLength = s.prefixCount ∧ s.regSet = .ix ∧ s.d = none
  | .afterFD => s.byteLength = s.prefixCount ∧ s.regSet = .iy ∧ s.d = none
  | .afterCB => s.byteLength = s.prefixCount + 1 ∧ s.d = none
  | .afterED => s.byteLength = s.prefixCount + 1 ∧ s.regSet = .hl ∧ s.d = none
  | .afterIndexCB =>
    s.regSet ≠ .hl ∧ s.byteLength = s.prefixCount + 1 + s.d.isSome.toNat
  | .operands =>
    ∃ p o f, s.page = some p ∧ s.op = some o ∧ (p = .base ∨ p = .ed ∧ s.regSet = .hl) ∧
      formOf s.params.cbY7Mnemonic (classify (latchedCtx p s.regSet) o) = some f ∧ f.page = p ∧
      s.opcodeEnd ≤ s.byteLength ∧ s.operandCount < recipeMax f.recipe ∧
      (s.d ≠ none ↔ f.recipe = .dn ∧ s.operandCount = 1) ∧
      (f.recipe = .w → s.operandCount = 2 → s.wordIsLong = true)
  | .complete => 1 ≤ s.byteLength

/-- What every emitted record satisfies (R40, R47 (e), R121, R123). -/
structure DecodedInstruction.Ok (r : DecodedInstruction) : Prop where
  length_counts : r.byteLength = r.rawBytes.length
  length_bounds : 1 ≤ r.byteLength ∧ r.byteLength ≤ 6
  text_iff_full : r.mnemonicText ≠ "" ↔ r.kind = .full
  form_absent_iff : r.form = none ↔ r.kind = .prefixOnly

/-- The invariants of 10_state.md R47 (a) to (e), with what an inductive proof of them needs: the shape of each phase, the
run state against budget and fault (R39 to R42), and the canonical form of the stream. -/
structure State.Inv (s : State) : Prop where
  stream_canonical : s.stream.wf = true
  length_le : s.byteLength ≤ 6
  cursor_eq : s.cursor = s.startAddress + BitVec.ofNat 24 s.byteLength
  suffix_from_byte : s.suffix ≠ .none → ∃ b ∈ s.rawBytes.take 2, isModeSelect b = true
  regSet_from_byte : s.regSet ≠ .hl → ∃ b ∈ s.rawBytes.take 2, b = 0xDD ∨ b = 0xFD
  complete_iff : s.phase = .complete ↔ s.output ≠ none
  output_last : ∀ r, s.output = some r → s.emitted.getLast? = some r
  records_ok : ∀ r ∈ s.emitted, r.Ok
  running_shape : s.runState = .running → s.Shape
  running_latches : s.runState = .running → s.phase ≠ .complete → s.n = none ∧ s.w = none ∧ s.e = none
  running_budget : s.runState = .running → 0 < s.remaining
  done_budget : s.runState = .done → s.remaining ≤ 0
  faulted_iff : s.runState = .faulted ↔ s.fault ≠ .none

/-- The records of the run lie one after the other, and the instruction in progress begins where the last one ended
(30_encoding.md R141). -/
def State.Contiguous (s : State) : Prop :=
  s.emitted.IsChain (fun r q => q.startAddress = r.startAddress + BitVec.ofNat 24 r.byteLength) ∧
  ∀ r, s.emitted.getLast? = some r →
    r.startAddress + BitVec.ofNat 24 r.byteLength = if s.phase = .complete then s.cursor else s.startAddress

/-- The bytes the emitted records account for (30_encoding.md R140). -/
def State.emittedBytes (s : State) : Int := (s.emitted.map fun r => (r.byteLength : Int)).sum

end Sys2Proof.Machine

namespace Sys2Proof.Claims

open Sys2Proof.Machine

/-- The bytes at `a` and on may be read and are these (20_memory.md R71, R79). -/
def Holds (s : State) (a : Addr) : List Byte → Prop
  | [] => True
  | b :: bs => readable s.params a = true ∧ s.streamByte a = b ∧ Holds s (a + 1) bs

/-- How many bytes stand between the prefix bytes of base-page position and the opcode byte: the page prefix, and the
displacement of an indexed CB (30_encoding.md R116, R117). -/
def pageBytes : Page → Nat
  | .base => 0
  | .cb => 1
  | .indexCb => 2
  | .ed => 1

/-- A running block whose next byte is the opcode byte of a row on this page: it has read the prefix bytes it has taken and
what the page puts before its opcode, and no operand after the opcode has been fetched. -/
structure AtOpcode (s : State) (page : Page) : Prop where
  running : s.runState = .running
  not_operands : s.phase ≠ .operands
  length_eq : s.byteLength = s.prefixCount + pageBytes page

/-- The record a row emits after the accepted bytes `bytes` (10_state.md R40). -/
def recordAfter (s : State) (bytes : List Byte) (op : Option Byte) (page : Option Page) (d : Option Int) (n : Option Byte)
    (w e : Option Addr) (kind : Kind) (form : Option Nat) (text : String) : DecodedInstruction :=
  { startAddress := s.startAddress, byteLength := s.rawBytes.length + bytes.length, rawBytes := s.rawBytes ++ bytes
    kind := kind, form := form, op := op, page := page, d := d, n := n, w := w, e := e, suffix := s.suffix
    regSet := s.regSet, mnemonicText := text }

/-- The state in which record `r` is ready, after `k` accepted bytes: `phase = Complete`, the budget less the length, the run
over when it is used up (30_encoding.md R111, R140); everything not named is as in `s`. -/
def completedBy (s : State) (k : Nat) (r : DecodedInstruction) : State :=
  { s with
    rawBytes := r.rawBytes, cursor := s.cursor + BitVec.ofNat 24 k, phase := .complete
    op := r.op, page := r.page, d := r.d, n := r.n, w := r.w, e := r.e
    output := some r, emitted := s.emitted ++ [r], remaining := s.remaining - r.byteLength
    runState := if s.remaining - r.byteLength > 0 then .running else .done }

-- Spellings, written out from 30_encoding.md R101 to R109, R130 and R131

/-- `r[i]` (R101). -/
def rName (i : Fin 8) : String := ["B", "C", "D", "E", "H", "L", "(HL)", "A"].getD i.val ""
/-- `rp[p]` (R102). -/
def rpName (p : Fin 4) : String := ["BC", "DE", "HL", "SP"].getD p.val ""
/-- `rp2[p]` (R103). -/
def rp2Name (p : Fin 4) : String := ["BC", "DE", "HL", "AF"].getD p.val ""
/-- `cc[y]` (R104). -/
def ccName (y : Fin 8) : String := ["NZ", "Z", "NC", "C", "PO", "PE", "P", "M"].getD y.val ""
/-- `alu[y]` (R105). -/
def aluName (y : Fin 8) : String := ["ADD", "ADC", "SUB", "SBC", "AND", "XOR", "OR", "CP"].getD y.val ""
/-- The index register (R109). -/
def sName : IndexReg → String
  | .ix => "IX"
  | .iy => "IY"
/-- `other(s)` (R109). -/
def otherName : IndexReg → String
  | .ix => "IY"
  | .iy => "IX"
/-- `rp` with entry 2 replaced by s (R303). -/
def rpIndexName (x : IndexReg) (p : Fin 4) : String := ["BC", "DE", sName x, "SP"].getD p.val ""
/-- `rp3` and `rp3Y` (R108). -/
def rp3Name (x : IndexReg) (p : Fin 4) : String := ["BC", "DE", "HL", sName x].getD p.val ""
/-- `half(s, y)` (R308): y = 4 the high half, y = 5 the low one. -/
def halfName (x : IndexReg) (y : Fin 8) : String := sName x ++ (if y = 4 then "H" else "L")
/-- `sub(i)` (R316). -/
def subName (x : IndexReg) (i : Fin 8) : String := if i = 4 ∨ i = 5 then halfName x i else rName i
/-- A decimal digit 0 to 7 (R136). -/
def digitName (b : Fin 8) : String := ["0", "1", "2", "3", "4", "5", "6", "7"].getD b.val ""
/-- A restart target (R263). -/
def rstName (t : Fin 8) : String := ["&00", "&08", "&10", "&18", "&20", "&28", "&30", "&38"].getD t.val ""
/-- The suffix of a mode-select byte by its y field (R107). -/
def suffixNamed (y : Fin 8) : Suffix := [Suffix.sis, .lis, .sil, .lil].getD y.val .none
/-- The mode-select byte of a suffix (R107). -/
def modeSelectByte : Suffix → Option Byte
  | .none => none
  | .sis => some 0x40
  | .lis => some 0x49
  | .sil => some 0x52
  | .lil => some 0x5B
/-- The keyword of the y = 7 row, a parameter (R358). -/
def y7Name (s : State) : String :=
  match s.params.cbY7Mnemonic with
  | .srl => "SRL"
  | .srr => "SRR"
/-- `rot[y] (s+d)` (R362). -/
def rotIndexed : IndexReg → Fin 8 → Instr
  | .ix, y => [Instr.rlcIxd, .rrcIxd, .rlIxd, .rrIxd, .slaIxd, .sraIxd, .sllIxd, .srlIxd].getD y.val .nop
  | .iy, y => [Instr.rlcIyd, .rrcIyd, .rlIyd, .rrIyd, .slaIyd, .sraIyd, .sllIyd, .srlIyd].getD y.val .nop
/-- A hexadecimal digit (R131). -/
def hexName (v : Nat) : Char := "0123456789ABCDEF".toList.getD v '?'

/-- `Render` (R130): the keyword, the suffix right after it if one was taken, one space, the operands joined by commas. -/
def rendered (kw : String) (sfx : Suffix) (operands : List String) : String :=
  kw ++ (match sfx with
    | .none => ""
    | .sis => ".SIS"
    | .lis => ".LIS"
    | .sil => ".SIL"
    | .lil => ".LIL") ++
  (match operands with
    | [] => ""
    | o :: os => " " ++ os.foldl (fun t u => t ++ "," ++ u) o)

-- Counting bytes

/-- How many of the 256 bytes satisfy `p`. -/
def countBytes (p : Byte → Bool) : Nat := ((List.range 256).filter fun v => p (BitVec.ofNat 8 v)).length

/-- Does the row complete as `Full` (R123)? -/
def isFull (i : Instr) : Bool :=
  match formOf .srl i with
  | some f => f.body.isSome
  | none => false

/-- Is the row one of R301? -/
def isIgnored : Instr → Bool
  | .baseIxIgnored _ | .baseIyIgnored _ => true
  | _ => false

/-- The rule of a row that has a form. -/
def ruleOf (i : Instr) : Option Nat := (formOf .srl i).map Form.rule

-- What a row does

/-- Byte `b` selects row `i` in its table: in every base-page position with that register set, or as the opcode of that
page (30_encoding.md R110, R118). -/
def Selects : Home → Byte → Instr → Prop
  | .base, b, i => ∀ ms, classify (.base ms .hl) b = i
  | .baseIndexed .ix, b, i => ∀ ms, classify (.base ms .ix) b = i
  | .baseIndexed .iy, b, i => ∀ ms, classify (.base ms .iy) b = i
  | .cb, b, i => classify .cb b = i
  | .indexCb x, b, i => classify (.indexCb x) b = i
  | .ed, b, i => classify .ed b = i
  | _, _, _ => False

/-- Byte `b` of base-page position selects these rows instead under DD and under FD (41_base_indexed.md R300). -/
def UnderIndex (b : Byte) (ix iy : Instr) : Prop := Selects (.baseIndexed .ix) b ix ∧ Selects (.baseIndexed .iy) b iy

/-- Byte `b` is not substituted under an index prefix (R301). -/
def NotSubstituted (b : Byte) : Prop := UnderIndex b (.baseIxIgnored b) (.baseIyIgnored b)

/-- A failed read, at any byte of the row: the stream fault at that address, and the run is over with the byte not accepted, no
record emitted and the budget kept (60_exceptions.md R601, R602). -/
def Faults (i : Instr) : Prop :=
  ∀ s : State, s.runState = .running → readable s.params s.cursor = false →
    ∃ t, exec i s = .next t ∧ t.fault = .streamFault s.cursor ∧ t.runState = .faulted ∧ t.cursor = s.cursor ∧
      t.emitted = s.emitted ∧ t.remaining = s.remaining

/-- The state a stream fault leaves, everything not named being as it was (assumption log 11). -/
def faultedAt (s : State) : State := { s with fault := .streamFault s.cursor, runState := .faulted }

/-- A row with no operand: its opcode byte completes it, with the text of its rule. -/
def CompletesPlain (page : Page) (i : Instr) (rule : Nat) (kw : State → String) (operands : List String) : Prop :=
  ∀ (s : State) (b : Byte), AtOpcode s page → Holds s s.cursor [b] →
    exec i s = .next (completedBy s 1
      (recordAfter s [b] (some b) (some page) s.d s.n s.w s.e .full (some rule) (rendered (kw s) s.suffix operands)))

/-- An unrepresented row: its opcode byte completes it, with empty text and no operand fetched (30_encoding.md R123). -/
def CompletesUnrepresented (page : Page) (i : Instr) (rule : Nat) : Prop :=
  ∀ (s : State) (b : Byte), AtOpcode s page → Holds s s.cursor [b] →
    exec i s = .next (completedBy s 1
      (recordAfter s [b] (some b) (some page) s.d s.n s.w s.e .unrepresented (some rule) ""))

/-- A row with recipe `n`: the opcode byte, then the immediate byte completes it. -/
def CompletesN (page : Page) (i : Instr) (rule : Nat) (kw : String) (operands : Byte → List String) : Prop :=
  ∀ (s : State) (b v : Byte), AtOpcode s page → Holds s s.cursor [b, v] →
    ∃ t, exec i s = .next t ∧ exec i t = .next (completedBy s 2
      (recordAfter s [b, v] (some b) (some page) s.d (some v) s.w s.e .full (some rule)
        (rendered kw s.suffix (operands v))))

/-- A row with recipe `d`: the opcode byte, then the displacement, read as a signed byte, completes it. -/
def CompletesD (page : Page) (i : Instr) (rule : Nat) (kw : String) (operands : Int → List String) : Prop :=
  ∀ (s : State) (b v : Byte), AtOpcode s page → Holds s s.cursor [b, v] →
    ∃ t, exec i s = .next t ∧ exec i t = .next (completedBy s 2
      (recordAfter s [b, v] (some b) (some page) (some v.toInt) s.n s.w s.e .full (some rule)
        (rendered kw s.suffix (operands v.toInt))))

/-- A row with recipe `d n` (`LD (s+d),n`): opcode, displacement, immediate. -/
def CompletesDN (i : Instr) (rule : Nat) (kw : String) (operands : Int → Byte → List String) : Prop :=
  ∀ (s : State) (b v u : Byte), AtOpcode s .base → Holds s s.cursor [b, v, u] →
    ∃ t₁ t₂, exec i s = .next t₁ ∧ exec i t₁ = .next t₂ ∧ exec i t₂ = .next (completedBy s 3
      (recordAfter s [b, v, u] (some b) (some .base) (some v.toInt) (some u) s.w s.e .full (some rule)
        (rendered kw s.suffix (operands v.toInt u))))

/-- A row with recipe `e`: opcode, then the displacement, whose target counts from the address after it, mod 2^24. -/
def CompletesE (i : Instr) (rule : Nat) (kw : String) (operands : Addr → List String) : Prop :=
  ∀ (s : State) (b v : Byte), AtOpcode s .base → Holds s s.cursor [b, v] →
    ∃ t, exec i s = .next t ∧ exec i t = .next (completedBy s 2
      (recordAfter s [b, v] (some b) (some .base) s.d s.n s.w (some (s.cursor + 2 + v.signExtend 24)) .full (some rule)
        (rendered kw s.suffix (operands (s.cursor + 2 + v.signExtend 24)))))

/-- Is a word 3 bytes (30_encoding.md R119)? Written out from the rule. -/
def LongWord (s : State) : Prop :=
  match s.params.widthPolicy with
  | .docOr => s.execWidth = .adlMode ∨ s.suffix = .sil ∨ s.suffix = .lil
  | .suffixOverrides =>
    (s.suffix ≠ .none ∧ (s.suffix = .sil ∨ s.suffix = .lil)) ∨ (s.suffix = .none ∧ s.execWidth = .adlMode)

/-- The little-endian word of three bytes (20_memory.md R76, R77). -/
def leWord (lo mid hi : Byte) : Addr := BitVec.ofNat 24 (lo.toNat + 256 * mid.toNat + 65536 * hi.toNat)

/-- A row with recipe `w`. Long: opcode and three word bytes. Short: opcode and two word bytes, the high byte made up from
bits 23:16 of the cursor after them (20_memory.md R76). -/
def CompletesW (page : Page) (i : Instr) (rule : Nat) (kw : String) (operands : Addr → List String) : Prop :=
  ∀ (s : State) (b lo mid : Byte), AtOpcode s page →
    (LongWord s → ∀ hi, Holds s s.cursor [b, lo, mid, hi] →
      ∃ t₁ t₂ t₃, exec i s = .next t₁ ∧ exec i t₁ = .next t₂ ∧ exec i t₂ = .next t₃ ∧
        exec i t₃ = .next (completedBy s 4
          (recordAfter s [b, lo, mid, hi] (some b) (some page) s.d s.n (some (leWord lo mid hi)) s.e .full (some rule)
            (rendered kw s.suffix (operands (leWord lo mid hi)))))) ∧
    (¬ LongWord s → Holds s s.cursor [b, lo, mid] →
      let hi := (s.cursor + 3).extractLsb' 16 8
      ∃ t₁ t₂, exec i s = .next t₁ ∧ exec i t₁ = .next t₂ ∧
        exec i t₂ = .next (completedBy s 3
          (recordAfter s [b, lo, mid] (some b) (some page) s.d s.n (some (leWord lo mid hi)) s.e .full (some rule)
            (rendered kw s.suffix (operands (leWord lo mid hi))))))

/-- A running block that has accepted an index prefix and CB, and has the displacement and the opcode of an indexed CB
before it (42_cb_page.md R362). -/
structure AtIndexCb (s : State) : Prop where
  running : s.runState = .running
  phase_eq : s.phase = .afterIndexCB
  length_eq : s.byteLength = s.prefixCount + 1

/-- An indexed-CB row (42_cb_page.md R362). The displacement is read first, by the CB prefix row; the opcode byte after it
completes the row. So does the opcode byte in every state that has a displacement latched. -/
def CompletesIndexCb (i : Instr) (rule : Nat) (kw : State → String) (operands : Int → List String) : Prop :=
  (∀ (s : State) (v b : Byte), AtIndexCb s → Holds s s.cursor [v, b] →
    ∃ t, exec .cbPrefix s = .next t ∧ exec i t = .next (completedBy s 2
      (recordAfter s [v, b] (some b) (some .indexCb) (some v.toInt) s.n s.w s.e .full (some rule)
        (rendered (kw s) s.suffix (operands v.toInt))))) ∧
  ∀ (s : State) (b : Byte) (d : Int), AtOpcode s .indexCb → s.d = some d → Holds s s.cursor [b] →
    exec i s = .next (completedBy s 1
      (recordAfter s [b] (some b) (some .indexCb) (some d) s.n s.w s.e .full (some rule)
        (rendered (kw s) s.suffix (operands d))))

/-- An unrepresented row of the indexed-CB page: displacement and opcode are consumed, with empty text (42_cb_page.md
R374). -/
def CompletesUnrepresentedIndexCb (i : Instr) (rule : Nat) : Prop :=
  ∀ (s : State) (v b : Byte), AtIndexCb s → Holds s s.cursor [v, b] →
    ∃ t, exec .cbPrefix s = .next t ∧ exec i t = .next (completedBy s 2
      (recordAfter s [v, b] (some b) (some .indexCb) (some v.toInt) s.n s.w s.e .unrepresented (some rule) ""))

/-- The page of a table. -/
def pageOf : Home → Page
  | .cb => .cb
  | .indexCb _ => .indexCb
  | .ed => .ed
  | _ => .base

-- A whole rule: which byte selects the row, what the row completes with, and its fault.

def PlainRow (h : Home) (b : Byte) (i : Instr) (rule : Nat) (kw : String) (operands : List String) : Prop :=
  Selects h b i ∧ CompletesPlain (pageOf h) i rule (fun _ => kw) operands ∧ Faults i

def RowN (h : Home) (b : Byte) (i : Instr) (rule : Nat) (kw : String) (operands : Byte → List String) : Prop :=
  Selects h b i ∧ CompletesN (pageOf h) i rule kw operands ∧ Faults i

def RowD (h : Home) (b : Byte) (i : Instr) (rule : Nat) (kw : String) (operands : Int → List String) : Prop :=
  Selects h b i ∧ CompletesD (pageOf h) i rule kw operands ∧ Faults i

def RowDN (h : Home) (b : Byte) (i : Instr) (rule : Nat) (kw : String) (operands : Int → Byte → List String) : Prop :=
  Selects h b i ∧ CompletesDN i rule kw operands ∧ Faults i

def RowE (h : Home) (b : Byte) (i : Instr) (rule : Nat) (kw : String) (operands : Addr → List String) : Prop :=
  Selects h b i ∧ CompletesE i rule kw operands ∧ Faults i

def RowW (h : Home) (b : Byte) (i : Instr) (rule : Nat) (kw : String) (operands : Addr → List String) : Prop :=
  Selects h b i ∧ CompletesW (pageOf h) i rule kw operands ∧ Faults i

def RowIndexCb (x : IndexReg) (b : Byte) (i : Instr) (rule : Nat) (kw : String) (operands : Int → List String) : Prop :=
  Selects (.indexCb x) b i ∧ CompletesIndexCb i rule (fun _ => kw) operands ∧ Faults i ∧ Faults .cbPrefix

def UnrepresentedRow (h : Home) (b : Byte) (i : Instr) (rule : Nat) : Prop :=
  Selects h b i ∧ CompletesUnrepresented (pageOf h) i rule ∧ Faults i

/-- A record under another rule number. -/
def relabel (rule : Nat) (r : DecodedInstruction) : DecodedInstruction := { r with form := some rule }

/-- How many operand bytes a recipe fetches, words being long or not (30_encoding.md R119, R120). -/
def recipeBytes : Recipe → Bool → Nat
  | .none, _ => 0
  | .n, _ => 1
  | .d, _ => 1
  | .e, _ => 1
  | .w, long => if long then 3 else 2
  | .dn, _ => 2

/-- A row of R301 completes as the base row of its opcode does: where the opcode and the bytes that the base row reads can be
read (`f` being its form), both complete at the last of them, with the same bytes, operands and text, and the one record is
the other but for the rule it names. -/
def CompletesAsBase (i : Instr) (op : Byte) : Prop :=
  ∃ f, formOf .srl (classifyBase op) = some f ∧ f.page = .base ∧
    ∀ (s : State) (b : Byte) (bs : List Byte) (long : Bool), AtOpcode s .base → (long = true ↔ LongWord s) →
      bs.length = recipeBytes f.recipe long → Holds s s.cursor (b :: bs) →
      ∃ t r rule, execTimes (bs.length + 1) (classifyBase op) s = .next t ∧ t.phase = .complete ∧ t.output = some r ∧
        r.kind = .full ∧ r.regSet = s.regSet ∧ r.rawBytes = s.rawBytes ++ b :: bs ∧
        r.byteLength = s.prefixCount + 1 + bs.length ∧ (∃ t₁, exec i s = .next t₁) ∧
        execTimes (bs.length + 1) i s =
          .next { t with output := some (relabel rule r), emitted := s.emitted ++ [relabel rule r] }

/-- What every state of an outcome becomes under a change of the stream. -/
def withStream (m : Memory) : Host.Outcome State Fault Refusal → Host.Outcome State Fault Refusal
  | .next t => .next { t with stream := m }
  | .fault r => .fault r
  | .refused r => .refused r

/-- The registers of one instruction at its start (70_reset_and_hazards.md R702), written out from the rule. -/
def started (s : State) : State :=
  { s with
    startAddress := s.cursor, suffix := .none, regSet := .hl, phase := .noPrefix, rawBytes := []
    op := none, page := none, d := none, n := none, w := none, e := none, output := none }

end Sys2Proof.Claims
end

