-- ==== Sys2Proof/Certificates/Slice0/Obligations.lean ====
section
/-! DEFINITION. The statements for the provers. Each says one thing the spec's numbered rules say of the block, over the terms of
Sys2Proof/Safety.lean; OBLIGATIONS.json gives its rules and its sentence of the spec. -/

open Sys2Proof Sys2Proof.Machine Sys2Proof.Claims

/-- For every register field: the opcode byte of the row selects it in every base-page position with no index prefix,
whether or not a mode-select was taken; from every running state at its opcode, one read of the row answers the next
state whose record holds the bytes, op, page Base, the rule as form and the text of the rule with the suffix after the
keyword; nothing else of the state changes; an unreadable byte is the stream fault. Under DD and FD the rows that the
rules name as substituted or not substituted are those. (R200; R201; R206; R207; R208; R211; R212; R215; R216; R217;
R218) -/
def Obligations.BaseIndirectAndIncrementRows : Prop :=
  PlainRow .base 0x00 .nop 200 "NOP" [] ∧
  PlainRow .base 0x08 .exAfAf 201 "EX" ["AF", "AF'"] ∧ NotSubstituted 0x08 ∧
  (∀ p : Fin 4, PlainRow .base (BitVec.ofNat 8 (0x09 + 16 * p.val)) (.addHlRr (pairOf p)) 206 "ADD" ["HL", rpName p]) ∧
  PlainRow .base 0x02 .ldIndBcA 207 "LD" ["(BC)", "A"] ∧ NotSubstituted 0x02 ∧
  PlainRow .base 0x12 .ldIndDeA 208 "LD" ["(DE)", "A"] ∧ NotSubstituted 0x12 ∧
  PlainRow .base 0x0A .ldAIndBc 211 "LD" ["A", "(BC)"] ∧
  PlainRow .base 0x1A .ldAIndDe 212 "LD" ["A", "(DE)"] ∧
  (∀ p : Fin 4, PlainRow .base (BitVec.ofNat 8 (0x03 + 16 * p.val)) (.incRr (pairOf p)) 215 "INC" [rpName p]) ∧
  UnderIndex 0x23 .incIx .incIy ∧
  (∀ p : Fin 4, PlainRow .base (BitVec.ofNat 8 (0x0B + 16 * p.val)) (.decRr (pairOf p)) 216 "DEC" [rpName p]) ∧
  UnderIndex 0x2B .decIx .decIy ∧
  (∀ y : Fin 8, PlainRow .base (BitVec.ofNat 8 (0x04 + 8 * y.val)) (.incR (reg8Of y)) 217 "INC" [rName y]) ∧
  UnderIndex 0x24 (.incIxHalf .high) (.incIyHalf .high) ∧ UnderIndex 0x2C (.incIxHalf .low) (.incIyHalf .low) ∧
  UnderIndex 0x34 .incIxd .incIyd ∧
  (∀ y : Fin 8, PlainRow .base (BitVec.ofNat 8 (0x05 + 8 * y.val)) (.decR (reg8Of y)) 218 "DEC" [rName y]) ∧
  UnderIndex 0x25 (.decIxHalf .high) (.decIyHalf .high) ∧ UnderIndex 0x2D (.decIxHalf .low) (.decIyHalf .low) ∧
  UnderIndex 0x35 .decIxd .decIyd

/-- The eight x=0 z=7 rows, HALT and the 59 loads between registers each complete with the text of their rule from
every running state at their opcode. The accumulator rows exist only with no index prefix: under DD and FD their bytes
are the indexed loads. HALT is not substituted. No byte in base-page position is LD B,B, LD C,C, LD D,D or LD E,E;
their bytes are the mode-selects. (R220; R221; R222; R223; R224; R225; R226; R227; R228; R229) -/
def Obligations.AccumulatorAndRegisterLoadRows : Prop :=
  PlainRow .base 0x07 .rlca 220 "RLCA" [] ∧ UnderIndex 0x07 (.ldRrIxd .bc) (.ldRrIyd .bc) ∧
  PlainRow .base 0x0F .rrca 221 "RRCA" [] ∧ UnderIndex 0x0F (.ldIxdRr .bc) (.ldIydRr .bc) ∧
  PlainRow .base 0x17 .rla 222 "RLA" [] ∧ UnderIndex 0x17 (.ldRrIxd .de) (.ldRrIyd .de) ∧
  PlainRow .base 0x1F .rra 223 "RRA" [] ∧ UnderIndex 0x1F (.ldIxdRr .de) (.ldIydRr .de) ∧
  PlainRow .base 0x27 .daa 224 "DAA" [] ∧ UnderIndex 0x27 (.ldRrIxd .hl) (.ldRrIyd .hl) ∧
  PlainRow .base 0x2F .cpl 225 "CPL" [] ∧ UnderIndex 0x2F (.ldIxdRr .hl) (.ldIydRr .hl) ∧
  PlainRow .base 0x37 .scf 226 "SCF" [] ∧ UnderIndex 0x37 .ldIxIxd .ldIyIyd ∧
  PlainRow .base 0x3F .ccf 227 "CCF" [] ∧ UnderIndex 0x3F .ldIxdIx .ldIydIy ∧
  PlainRow .base 0x76 .halt 228 "HALT" [] ∧ NotSubstituted 0x76 ∧
  (∀ y z : Fin 8, (y = z → 4 ≤ y ∧ y ≠ 6) → PlainRow .base (BitVec.ofNat 8 (0x40 + 8 * y.val + z.val))
    (.ldRR (reg8Of y) (reg8Of z)) 229 "LD" [rName y, rName z]) ∧
  (∀ ms rs b r, r = .b ∨ r = .c ∨ r = .d ∨ r = .e → classify (.base ms rs) b ≠ .ldRR r r) ∧
  (∀ y : Fin 8, y < 4 → ∀ rs, classify (.base false rs) (BitVec.ofNat 8 (0x40 + 9 * y.val)) = .modeSelect (suffixOf y))

/-- Each row reads its opcode and then its operand bytes, and the last one completes it: a relative target counts from
the address after the displacement mod 2^24; a word is three bytes or two with the segment byte, as the width rule
says; an immediate byte is latched. The texts are those of the rules. (R202; R203; R204; R205; R209; R210; R213; R214;
R219) -/
def Obligations.BaseImmediateAndRelativeRows : Prop :=
  RowE .base 0x10 .djnz 202 "DJNZ" (fun e => [wordText e]) ∧
  RowE .base 0x18 .jr 203 "JR" (fun e => [wordText e]) ∧
  (∀ c : Fin 8, c < 4 → RowE .base (BitVec.ofNat 8 (0x20 + 8 * c.val)) (.jrCc (condOf c)) 204 "JR"
    (fun e => [ccName c, wordText e])) ∧
  (∀ p : Fin 4, RowW .base (BitVec.ofNat 8 (0x01 + 16 * p.val)) (.ldRrNn (pairOf p)) 205 "LD" (fun w => [rpName p, wordText w])) ∧
  RowW .base 0x22 .ldMemHl 209 "LD" (fun w => [memText w, "HL"]) ∧ UnderIndex 0x22 .ldMemIx .ldMemIy ∧
  RowW .base 0x32 .ldMemA 210 "LD" (fun w => [memText w, "A"]) ∧ NotSubstituted 0x32 ∧
  RowW .base 0x2A .ldHlMem 213 "LD" (fun w => ["HL", memText w]) ∧ UnderIndex 0x2A .ldIxMem .ldIyMem ∧
  RowW .base 0x3A .ldAMem 214 "LD" (fun w => ["A", memText w]) ∧
  (∀ y : Fin 8, RowN .base (BitVec.ofNat 8 (0x06 + 8 * y.val)) (.ldRN (reg8Of y)) 219 "LD" (fun n => [rName y, byteText n])) ∧
  UnderIndex 0x26 (.ldIxHalfN .high) (.ldIyHalfN .high) ∧ UnderIndex 0x2E (.ldIxHalfN .low) (.ldIyHalfN .low) ∧
  UnderIndex 0x36 .ldIxdN .ldIydN

/-- For each of ADD, ADC, SUB, SBC, AND, XOR, OR and CP and each of the eight r operands, the row of that byte
completes with the accumulator named: OP A,r. (R230; R231; R232; R233; R234; R235; R236; R237) -/
def Obligations.RegisterAluRows : Prop :=
  (∀ z : Fin 8, PlainRow .base (BitVec.ofNat 8 (0x80 + z.val)) (.addAR (reg8Of z)) 230 "ADD" ["A", rName z]) ∧
  (∀ z : Fin 8, PlainRow .base (BitVec.ofNat 8 (0x88 + z.val)) (.adcAR (reg8Of z)) 231 "ADC" ["A", rName z]) ∧
  (∀ z : Fin 8, PlainRow .base (BitVec.ofNat 8 (0x90 + z.val)) (.subAR (reg8Of z)) 232 "SUB" ["A", rName z]) ∧
  (∀ z : Fin 8, PlainRow .base (BitVec.ofNat 8 (0x98 + z.val)) (.sbcAR (reg8Of z)) 233 "SBC" ["A", rName z]) ∧
  (∀ z : Fin 8, PlainRow .base (BitVec.ofNat 8 (0xA0 + z.val)) (.andAR (reg8Of z)) 234 "AND" ["A", rName z]) ∧
  (∀ z : Fin 8, PlainRow .base (BitVec.ofNat 8 (0xA8 + z.val)) (.xorAR (reg8Of z)) 235 "XOR" ["A", rName z]) ∧
  (∀ z : Fin 8, PlainRow .base (BitVec.ofNat 8 (0xB0 + z.val)) (.orAR (reg8Of z)) 236 "OR" ["A", rName z]) ∧
  (∀ z : Fin 8, PlainRow .base (BitVec.ofNat 8 (0xB8 + z.val)) (.cpAR (reg8Of z)) 237 "CP" ["A", rName z])

/-- Each row of base page x = 3 without an operand byte completes at its opcode with the text of its rule; the RST
target is the constant y*8 in two hexadecimal digits. Under DD and FD the rows the rules name as substituted or not
substituted are those. (R238; R239; R240; R241; R242; R243; R248; R249; R250; R251; R253; R263) -/
def Obligations.StackExchangeAndRestartRows : Prop :=
  (∀ y : Fin 8, PlainRow .base (BitVec.ofNat 8 (0xC0 + 8 * y.val)) (.retCc (condOf y)) 238 "RET" [ccName y]) ∧
  (∀ p : Fin 4, PlainRow .base (BitVec.ofNat 8 (0xC1 + 16 * p.val)) (.popQq (stackPairOf p)) 239 "POP" [rp2Name p]) ∧
  UnderIndex 0xE1 .popIx .popIy ∧
  PlainRow .base 0xC9 .ret 240 "RET" [] ∧
  PlainRow .base 0xD9 .exx 241 "EXX" [] ∧ NotSubstituted 0xD9 ∧
  PlainRow .base 0xE9 .jpIndHl 242 "JP" ["(HL)"] ∧ UnderIndex 0xE9 .jpIndIx .jpIndIy ∧
  PlainRow .base 0xF9 .ldSpHl 243 "LD" ["SP", "HL"] ∧ UnderIndex 0xF9 .ldSpIx .ldSpIy ∧
  PlainRow .base 0xE3 .exIndSpHl 248 "EX" ["(SP)", "HL"] ∧ UnderIndex 0xE3 .exIndSpIx .exIndSpIy ∧
  PlainRow .base 0xEB .exDeHl 249 "EX" ["DE", "HL"] ∧ NotSubstituted 0xEB ∧
  PlainRow .base 0xF3 .di 250 "DI" [] ∧
  PlainRow .base 0xFB .ei 251 "EI" [] ∧
  (∀ p : Fin 4, PlainRow .base (BitVec.ofNat 8 (0xC5 + 16 * p.val)) (.pushQq (stackPairOf p)) 253 "PUSH" [rp2Name p]) ∧
  UnderIndex 0xE5 .pushIx .pushIy ∧
  (∀ t : Fin 8, PlainRow .base (BitVec.ofNat 8 (0xC7 + 8 * t.val)) (.rst t) 263 "RST" [rstName t])

/-- The jumps and calls fetch a word, long or short as the width rule says, and complete with it; the two port rows
fetch the port byte. The bytes DD, ED and FD beside CALL nn are prefixes. (R244; R245; R246; R247; R252; R254) -/
def Obligations.JumpCallAndPortRows : Prop :=
  (∀ y : Fin 8, RowW .base (BitVec.ofNat 8 (0xC2 + 8 * y.val)) (.jpCcNn (condOf y)) 244 "JP" (fun w => [ccName y, wordText w])) ∧
  RowW .base 0xC3 .jpNn 245 "JP" (fun w => [wordText w]) ∧
  RowN .base 0xD3 .outNA 246 "OUT" (fun n => [portText n, "A"]) ∧
  RowN .base 0xDB .inAN 247 "IN" (fun n => ["A", portText n]) ∧
  (∀ y : Fin 8, RowW .base (BitVec.ofNat 8 (0xC4 + 8 * y.val)) (.callCcNn (condOf y)) 252 "CALL" (fun w => [ccName y, wordText w])) ∧
  RowW .base 0xCD .callNn 254 "CALL" (fun w => [wordText w]) ∧
  (∀ ms, classify (.base ms .hl) 0xDD = .indexPrefix .ix ∧ classify (.base ms .hl) 0xED = .edPrefix ∧
    classify (.base ms .hl) 0xFD = .indexPrefix .iy)

/-- For each of ADD, ADC, SUB, SBC, AND, XOR, OR and CP: the row reads its opcode, then the immediate byte, which is
latched in n and rendered as & and two digits after A. (R255; R256; R257; R258; R259; R260; R261; R262) -/
def Obligations.ImmediateAluRows : Prop :=
  RowN .base 0xC6 .addAN 255 "ADD" (fun n => ["A", byteText n]) ∧ NotSubstituted 0xC6 ∧
  RowN .base 0xCE .adcAN 256 "ADC" (fun n => ["A", byteText n]) ∧ NotSubstituted 0xCE ∧
  RowN .base 0xD6 .subAN 257 "SUB" (fun n => ["A", byteText n]) ∧ NotSubstituted 0xD6 ∧
  RowN .base 0xDE .sbcAN 258 "SBC" (fun n => ["A", byteText n]) ∧ NotSubstituted 0xDE ∧
  RowN .base 0xE6 .andAN 259 "AND" (fun n => ["A", byteText n]) ∧ NotSubstituted 0xE6 ∧
  RowN .base 0xEE .xorAN 260 "XOR" (fun n => ["A", byteText n]) ∧ NotSubstituted 0xEE ∧
  RowN .base 0xF6 .orAN 261 "OR" (fun n => ["A", byteText n]) ∧ NotSubstituted 0xF6 ∧
  RowN .base 0xFE .cpAN 262 "CP" (fun n => ["A", byteText n]) ∧ NotSubstituted 0xFE

/-- For IX and IY alike: ADD with entry 2 of rp replaced, INC, DEC, INC and DEC of a half, loads between halves and
registers, ALU with a half, POP, PUSH, JP (s), LD SP,s and EX (SP),s each complete at the opcode with the text of the
rule. JP (s) fetches no displacement. (R303; R306; R307; R308; R309; R316; R318; R319; R320; R321; R322; R323) -/
def Obligations.IndexedPlainRows : Prop :=
  (∀ x : IndexReg, ∀ p : Fin 4, PlainRow (.baseIndexed x) (BitVec.ofNat 8 (0x09 + 16 * p.val))
    (perIndex x (.addIxRr (pairOf p)) (.addIyRr (pairOf p))) 303 "ADD" [sName x, rpIndexName x p]) ∧
  (∀ x : IndexReg, PlainRow (.baseIndexed x) 0x23 (perIndex x .incIx .incIy) 306 "INC" [sName x]) ∧
  (∀ x : IndexReg, PlainRow (.baseIndexed x) 0x2B (perIndex x .decIx .decIy) 307 "DEC" [sName x]) ∧
  (∀ x : IndexReg, ∀ y : Fin 8, y = 4 ∨ y = 5 → PlainRow (.baseIndexed x) (BitVec.ofNat 8 (0x04 + 8 * y.val))
    (perIndex x (.incIxHalf (halfOf y)) (.incIyHalf (halfOf y))) 308 "INC" [halfName x y]) ∧
  (∀ x : IndexReg, ∀ y : Fin 8, y = 4 ∨ y = 5 → PlainRow (.baseIndexed x) (BitVec.ofNat 8 (0x05 + 8 * y.val))
    (perIndex x (.decIxHalf (halfOf y)) (.decIyHalf (halfOf y))) 309 "DEC" [halfName x y]) ∧
  (∀ x : IndexReg, ∀ y z : Fin 8, y ≠ 6 → z ≠ 6 → (y = 4 ∨ y = 5 ∨ z = 4 ∨ z = 5) →
    PlainRow (.baseIndexed x) (BitVec.ofNat 8 (0x40 + 8 * y.val + z.val))
      (perIndex x (.ldIxHalves (reg8Of y) (reg8Of z)) (.ldIyHalves (reg8Of y) (reg8Of z)))
      316 "LD" [subName x y, subName x z]) ∧
  (∀ x : IndexReg, ∀ y z : Fin 8, z = 4 ∨ z = 5 → PlainRow (.baseIndexed x) (BitVec.ofNat 8 (0x80 + 8 * y.val + z.val))
    (perIndex x (.aluAIxHalf (aluOf y) (halfOf z)) (.aluAIyHalf (aluOf y) (halfOf z))) 318 (aluName y) ["A", halfName x z]) ∧
  (∀ x : IndexReg, PlainRow (.baseIndexed x) 0xE1 (perIndex x .popIx .popIy) 319 "POP" [sName x]) ∧
  (∀ x : IndexReg, PlainRow (.baseIndexed x) 0xE5 (perIndex x .pushIx .pushIy) 320 "PUSH" [sName x]) ∧
  (∀ x : IndexReg, PlainRow (.baseIndexed x) 0xE9 (perIndex x .jpIndIx .jpIndIy) 321 "JP" ["(" ++ sName x ++ ")"]) ∧
  (∀ x : IndexReg, PlainRow (.baseIndexed x) 0xF9 (perIndex x .ldSpIx .ldSpIy) 322 "LD" ["SP", sName x]) ∧
  (∀ x : IndexReg, PlainRow (.baseIndexed x) 0xE3 (perIndex x .exIndSpIx .exIndSpIy) 323 "EX" ["(SP)", sName x])

/-- For IX and IY alike: the opcode is read, then the displacement, a signed byte, which completes the row with (s+d)
in its text: INC, DEC, loads of and from a register (H and L stay), ALU, and the eZ80 loads of a pair, of s itself and
of the other index register, which replace LD SP,nn and LD A,n under the prefix. 0x76 is not one of them. (R310; R311;
R314; R315; R317; R324; R325; R326; R327; R328; R329) -/
def Obligations.IndexedDisplacementRows : Prop :=
  (∀ x : IndexReg, RowD (.baseIndexed x) 0x34 (perIndex x .incIxd .incIyd) 310 "INC" (fun d => [indText x d])) ∧
  (∀ x : IndexReg, RowD (.baseIndexed x) 0x35 (perIndex x .decIxd .decIyd) 311 "DEC" (fun d => [indText x d])) ∧
  (∀ x : IndexReg, ∀ y : Fin 8, y ≠ 6 → RowD (.baseIndexed x) (BitVec.ofNat 8 (0x46 + 8 * y.val))
    (perIndex x (.ldRIxd (reg8Of y)) (.ldRIyd (reg8Of y))) 314 "LD" (fun d => [rName y, indText x d])) ∧
  NotSubstituted 0x76 ∧
  (∀ x : IndexReg, ∀ z : Fin 8, z ≠ 6 → RowD (.baseIndexed x) (BitVec.ofNat 8 (0x70 + z.val))
    (perIndex x (.ldIxdR (reg8Of z)) (.ldIydR (reg8Of z))) 315 "LD" (fun d => [indText x d, rName z])) ∧
  (∀ x : IndexReg, ∀ y : Fin 8, RowD (.baseIndexed x) (BitVec.ofNat 8 (0x86 + 8 * y.val))
    (perIndex x (.aluAIxd (aluOf y)) (.aluAIyd (aluOf y))) 317 (aluName y) (fun d => ["A", indText x d])) ∧
  (∀ x : IndexReg, ∀ p : Fin 4, p < 3 → RowD (.baseIndexed x) (BitVec.ofNat 8 (0x07 + 16 * p.val))
    (perIndex x (.ldRrIxd (pairOf p)) (.ldRrIyd (pairOf p))) 324 "LD" (fun d => [rpName p, indText x d])) ∧
  (∀ x : IndexReg, RowD (.baseIndexed x) 0x37 (perIndex x .ldIxIxd .ldIyIyd) 325 "LD" (fun d => [sName x, indText x d])) ∧
  (∀ x : IndexReg, ∀ p : Fin 4, p < 3 → RowD (.baseIndexed x) (BitVec.ofNat 8 (0x0F + 16 * p.val))
    (perIndex x (.ldIxdRr (pairOf p)) (.ldIydRr (pairOf p))) 326 "LD" (fun d => [indText x d, rpName p])) ∧
  (∀ x : IndexReg, RowD (.baseIndexed x) 0x3F (perIndex x .ldIxdIx .ldIydIy) 327 "LD" (fun d => [indText x d, sName x])) ∧
  (∀ x : IndexReg, RowD (.baseIndexed x) 0x31 (perIndex x .ldOtherIxd .ldOtherIyd) 328 "LD" (fun d => [otherName x, indText x d])) ∧
  (∀ x : IndexReg, RowD (.baseIndexed x) 0x3E (perIndex x .ldIxdOther .ldIydOther) 329 "LD" (fun d => [indText x d, otherName x]))

/-- For IX and IY alike: LD s,nn, LD (nn),s and LD s,(nn) fetch a word, long or short as the width rule says; LD sH,n
and LD sL,n fetch an immediate byte; LD (s+d),n fetches the displacement first and then the immediate. (R302; R304;
R305; R312; R313) -/
def Obligations.IndexedImmediateRows : Prop :=
  (∀ x : IndexReg, RowW (.baseIndexed x) 0x21 (perIndex x .ldIxNn .ldIyNn) 302 "LD" (fun w => [sName x, wordText w])) ∧
  (∀ x : IndexReg, RowW (.baseIndexed x) 0x22 (perIndex x .ldMemIx .ldMemIy) 304 "LD" (fun w => [memText w, sName x])) ∧
  (∀ x : IndexReg, RowW (.baseIndexed x) 0x2A (perIndex x .ldIxMem .ldIyMem) 305 "LD" (fun w => [sName x, memText w])) ∧
  (∀ x : IndexReg, ∀ y : Fin 8, y = 4 ∨ y = 5 → RowN (.baseIndexed x) (BitVec.ofNat 8 (0x06 + 8 * y.val))
    (perIndex x (.ldIxHalfN (halfOf y)) (.ldIyHalfN (halfOf y))) 312 "LD" (fun n => [halfName x y, byteText n])) ∧
  (∀ x : IndexReg, RowDN (.baseIndexed x) 0x36 (perIndex x .ldIxdN .ldIydN) 313 "LD" (fun d n => [indText x d, byteText n]))

/-- For IX and IY alike and every byte of the rule's list (153 bytes, EX DE,HL among them): the byte selects the row
of R301 with that byte. Wherever the opcode and the operand bytes that the base row of the byte reads can be read
(none, one, two, or a long or short word), whatever lies after them, that row completes at the last of them as the
base row does: same bytes, operands and text, Full, with the index register set recorded and the length counting the
prefix; the record may differ only in the rule it names (IndexInsensitiveRowsRecordForm301 says which). An unreadable
byte is the stream fault. (R301) -/
def Obligations.IndexInsensitiveRows : Prop :=
  indexInsensitiveBytes.length = 153 ∧ indexInsensitiveBytes.Nodup ∧ indexInsensitive 0xEB = true ∧
  (∀ x op, indexInsensitive op = true → Selects (.baseIndexed x) op (perIndex x (.baseIxIgnored op) (.baseIyIgnored op)) ∧
    CompletesAsBase (perIndex x (.baseIxIgnored op) (.baseIyIgnored op)) op ∧ Faults (perIndex x (.baseIxIgnored op) (.baseIyIgnored op)))

/-- Each of the 248 opcodes of the CB page outside the y = 7 row completes at its opcode with the text of its rule;
bytes that are mode-selects or prefixes in base-page position are ordinary CB opcodes here. (R351; R352; R353; R354;
R355; R356; R357; R359; R360; R361) -/
def Obligations.CbRotateAndBitRows : Prop :=
  (∀ z : Fin 8, PlainRow .cb (BitVec.ofNat 8 (0x00 + z.val)) (.rlcR (reg8Of z)) 351 "RLC" [rName z]) ∧
  (∀ z : Fin 8, PlainRow .cb (BitVec.ofNat 8 (0x08 + z.val)) (.rrcR (reg8Of z)) 352 "RRC" [rName z]) ∧
  (∀ z : Fin 8, PlainRow .cb (BitVec.ofNat 8 (0x10 + z.val)) (.rlR (reg8Of z)) 353 "RL" [rName z]) ∧
  (∀ z : Fin 8, PlainRow .cb (BitVec.ofNat 8 (0x18 + z.val)) (.rrR (reg8Of z)) 354 "RR" [rName z]) ∧
  (∀ z : Fin 8, PlainRow .cb (BitVec.ofNat 8 (0x20 + z.val)) (.slaR (reg8Of z)) 355 "SLA" [rName z]) ∧
  (∀ z : Fin 8, PlainRow .cb (BitVec.ofNat 8 (0x28 + z.val)) (.sraR (reg8Of z)) 356 "SRA" [rName z]) ∧
  (∀ z : Fin 8, PlainRow .cb (BitVec.ofNat 8 (0x30 + z.val)) (.sllR (reg8Of z)) 357 "SLL" [rName z]) ∧
  (∀ b z : Fin 8, PlainRow .cb (BitVec.ofNat 8 (0x40 + 8 * b.val + z.val)) (.bitBR b (reg8Of z)) 359 "BIT"
    [digitName b, rName z]) ∧
  (∀ b z : Fin 8, PlainRow .cb (BitVec.ofNat 8 (0x80 + 8 * b.val + z.val)) (.resBR b (reg8Of z)) 360 "RES"
    [digitName b, rName z]) ∧
  (∀ b z : Fin 8, PlainRow .cb (BitVec.ofNat 8 (0xC0 + 8 * b.val + z.val)) (.setBR b (reg8Of z)) 361 "SET"
    [digitName b, rName z])

/-- For every register operand, and for IX and IY with every displacement: the y = 7 row completes with SRL when the
parameter is SRL and with SRR when it is SRR; SRL is the default. (R358; R370) -/
def Obligations.CbShiftRightLogicalRows : Prop :=
  (∀ z : Fin 8, Selects .cb (BitVec.ofNat 8 (0x38 + z.val)) (.srlR (reg8Of z)) ∧
    CompletesPlain .cb (.srlR (reg8Of z)) 358 y7Name [rName z] ∧ Faults (.srlR (reg8Of z))) ∧
  (∀ x : IndexReg, Selects (.indexCb x) 0x3E (perIndex x .srlIxd .srlIyd) ∧
    CompletesIndexCb (perIndex x .srlIxd .srlIyd) 370 y7Name (fun d => [indText x d]) ∧
    Faults (perIndex x .srlIxd .srlIyd) ∧ Faults .cbPrefix) ∧
  Params.default.cbY7Mnemonic = .srl

/-- For IX and IY alike: after the index prefix and CB, the CB prefix row reads the displacement and the opcode byte
then completes the row with (s+d) and the displacement latched in d; an unreadable displacement or opcode is the
stream fault. (R363; R364; R365; R366; R367; R368; R369; R371; R372; R373) -/
def Obligations.IndexedCbRows : Prop :=
  (∀ x : IndexReg, RowIndexCb x 0x06 (perIndex x .rlcIxd .rlcIyd) 363 "RLC" (fun d => [indText x d])) ∧
  (∀ x : IndexReg, RowIndexCb x 0x0E (perIndex x .rrcIxd .rrcIyd) 364 "RRC" (fun d => [indText x d])) ∧
  (∀ x : IndexReg, RowIndexCb x 0x16 (perIndex x .rlIxd .rlIyd) 365 "RL" (fun d => [indText x d])) ∧
  (∀ x : IndexReg, RowIndexCb x 0x1E (perIndex x .rrIxd .rrIyd) 366 "RR" (fun d => [indText x d])) ∧
  (∀ x : IndexReg, RowIndexCb x 0x26 (perIndex x .slaIxd .slaIyd) 367 "SLA" (fun d => [indText x d])) ∧
  (∀ x : IndexReg, RowIndexCb x 0x2E (perIndex x .sraIxd .sraIyd) 368 "SRA" (fun d => [indText x d])) ∧
  (∀ x : IndexReg, RowIndexCb x 0x36 (perIndex x .sllIxd .sllIyd) 369 "SLL" (fun d => [indText x d])) ∧
  (∀ x : IndexReg, ∀ b : Fin 8, RowIndexCb x (BitVec.ofNat 8 (0x46 + 8 * b.val)) (perIndex x (.bitBIxd b) (.bitBIyd b)) 371 "BIT"
    (fun d => [digitName b, indText x d])) ∧
  (∀ x : IndexReg, ∀ b : Fin 8, RowIndexCb x (BitVec.ofNat 8 (0x86 + 8 * b.val)) (perIndex x (.resBIxd b) (.resBIyd b)) 372 "RES"
    (fun d => [digitName b, indText x d])) ∧
  (∀ x : IndexReg, ∀ b : Fin 8, RowIndexCb x (BitVec.ofNat 8 (0xC6 + 8 * b.val)) (perIndex x (.setBIxd b) (.setBIyd b)) 373 "SET"
    (fun d => [digitName b, indText x d]))

/-- Every indexed-CB opcode with z other than 6, the 89 ED opcodes of R442 and the 32 ED opcodes with x = 2 of R507
complete as Unrepresented: the record has the bytes, an empty text and no fetched operand; indexed CB has consumed the
displacement too. The total of the ED page is 121. (R374; R442; R507) -/
def Obligations.UnrepresentedRows : Prop :=
  (∀ x : IndexReg, ∀ b : Byte, b.toNat % 8 ≠ 6 →
    UnrepresentedRow (.indexCb x) b (perIndex x (.unrepIxCb b) (.unrepIyCb b)) 374 ∧
    CompletesUnrepresentedIndexCb (perIndex x (.unrepIxCb b) (.unrepIyCb b)) 374 ∧ Faults .cbPrefix) ∧
  (∀ b : Byte, b ∈ unrepresentedEdBytes → UnrepresentedRow .ed b (.unrepEd b) 442) ∧
  (∀ b : Byte, 0xC0 ≤ b.toNat → (b ∈ unrepresentedEdBytes ↔ b ∉ [0xC2, 0xC3, 0xC7, 0xCA, 0xCB, 0xD7])) ∧
  (∀ y z : Fin 8, (y < 4 ∧ (z < 2 ∨ 4 < z) ∨ 4 ≤ y ∧ 4 < z) →
    UnrepresentedRow .ed (BitVec.ofNat 8 (0x80 + 8 * y.val + z.val)) (.unrepEdBlock (BitVec.ofNat 8 (0x80 + 8 * y.val + z.val))) 507) ∧
  (unrepresentedEdBytes.length = 89 ∧ unrepresentedEdBytes.Nodup ∧ unrepresentedEdBlockBytes.length = 32 ∧
    unrepresentedEdBlockBytes.Nodup)

/-- IN0 and OUT0 fetch the port byte, LEA fetches a displacement rendered without parentheses, TST A,r and the (HL)
loads complete at the opcode; index 3 of the pair table is the index register the instruction names. The neighbouring
bytes the rules name as other rows or as unrepresented are those. (R401; R402; R403; R404; R405; R406; R407; R408;
R409) -/
def Obligations.EdLowPageRows : Prop :=
  (∀ y : Fin 8, y ≠ 6 → RowN .ed (BitVec.ofNat 8 (8 * y.val)) (.in0RN (reg8Of y)) 401 "IN0" (fun n => [rName y, portText n])) ∧
  classify .ed 0x30 = .unrepEd 0x30 ∧
  (∀ y : Fin 8, y ≠ 6 → RowN .ed (BitVec.ofNat 8 (0x01 + 8 * y.val)) (.out0NR (reg8Of y)) 402 "OUT0" (fun n => [portText n, rName y])) ∧
  (∀ p : Fin 4, RowD .ed (BitVec.ofNat 8 (0x02 + 16 * p.val)) (.leaRrIxd (indexPairOf p)) 403 "LEA"
    (fun d => [rp3Name .ix p, dispText .ix d])) ∧
  (∀ p : Fin 4, classify .ed (BitVec.ofNat 8 (0x0A + 16 * p.val)) = .unrepEd (BitVec.ofNat 8 (0x0A + 16 * p.val))) ∧
  (∀ p : Fin 4, RowD .ed (BitVec.ofNat 8 (0x03 + 16 * p.val)) (.leaRrIyd (indexPairOf p)) 404 "LEA"
    (fun d => [rp3Name .iy p, dispText .iy d])) ∧
  (∀ p : Fin 4, classify .ed (BitVec.ofNat 8 (0x0B + 16 * p.val)) = .unrepEd (BitVec.ofNat 8 (0x0B + 16 * p.val))) ∧
  (∀ y : Fin 8, PlainRow .ed (BitVec.ofNat 8 (0x04 + 8 * y.val)) (.tstAR (reg8Of y)) 405 "TST" ["A", rName y]) ∧
  (∀ p : Fin 4, PlainRow .ed (BitVec.ofNat 8 (0x07 + 16 * p.val)) (.ldRrIndHl (indexPairOf p)) 406 "LD" [rp3Name .ix p, "(HL)"]) ∧
  (∀ p : Fin 4, PlainRow .ed (BitVec.ofNat 8 (0x0F + 16 * p.val)) (.ldIndHlRr (indexPairOf p)) 407 "LD" ["(HL)", rp3Name .ix p]) ∧
  PlainRow .ed 0x31 .ldIyIndHl 408 "LD" ["IY", "(HL)"] ∧
  PlainRow .ed 0x3E .ldIndHlIy 409 "LD" ["(HL)", "IY"] ∧
  (∀ y : Fin 8, y ≠ 7 → classify .ed (BitVec.ofNat 8 (0x06 + 8 * y.val)) = .unrepEd (BitVec.ofNat 8 (0x06 + 8 * y.val)))

/-- Each row completes with the text of its rule, the word loads after fetching a long or short word as the width rule
says; 0x40 is IN B,(C) here and 0x5B is LD DE,(nn); 0x70 and 0x71 are unrepresented and the Z80 mirrors of NEG are
other rows. (R410; R411; R412; R413; R414; R415; R416; R417) -/
def Obligations.EdArithmeticAndLoadRows : Prop :=
  (∀ y : Fin 8, y ≠ 6 → PlainRow .ed (BitVec.ofNat 8 (0x40 + 8 * y.val)) (.inRC (reg8Of y)) 410 "IN" [rName y, "(C)"]) ∧
  (∀ y : Fin 8, y ≠ 6 → PlainRow .ed (BitVec.ofNat 8 (0x41 + 8 * y.val)) (.outCR (reg8Of y)) 411 "OUT" ["(C)", rName y]) ∧
  classify .ed 0x70 = .unrepEd 0x70 ∧ classify .ed 0x71 = .unrepEd 0x71 ∧
  (∀ p : Fin 4, PlainRow .ed (BitVec.ofNat 8 (0x42 + 16 * p.val)) (.sbcHlRr (pairOf p)) 412 "SBC" ["HL", rpName p]) ∧
  (∀ p : Fin 4, PlainRow .ed (BitVec.ofNat 8 (0x4A + 16 * p.val)) (.adcHlRr (pairOf p)) 413 "ADC" ["HL", rpName p]) ∧
  (∀ p : Fin 4, RowW .ed (BitVec.ofNat 8 (0x43 + 16 * p.val)) (.ldMemRr (pairOf p)) 414 "LD" (fun w => [memText w, rpName p])) ∧
  (∀ p : Fin 4, RowW .ed (BitVec.ofNat 8 (0x4B + 16 * p.val)) (.ldRrMem (pairOf p)) 415 "LD" (fun w => [rpName p, memText w])) ∧
  PlainRow .ed 0x44 .neg 416 "NEG" [] ∧
  (∀ b : Byte, b ∈ [0x4C, 0x54, 0x5C, 0x64, 0x6C, 0x74, 0x7C] → classify .ed b ≠ .neg ∧ ∀ o, classify .ed b ≠ .unrepEd o) ∧
  (∀ p : Fin 4, PlainRow .ed (BitVec.ofNat 8 (0x4C + 16 * p.val)) (.mltRr (pairOf p)) 417 "MLT" [rpName p])

/-- LEA and PEA fetch a displacement and render the address without parentheses; TST A,n and TSTIO n fetch an
immediate, rendered as a byte literal. (R418; R419; R420; R421; R424; R425) -/
def Obligations.EdAddressAndTestRows : Prop :=
  RowD .ed 0x54 .leaIxIyd 418 "LEA" (fun d => ["IX", dispText .iy d]) ∧
  RowD .ed 0x55 .leaIyIxd 419 "LEA" (fun d => ["IY", dispText .ix d]) ∧
  RowN .ed 0x64 .tstAN 420 "TST" (fun n => ["A", byteText n]) ∧
  RowN .ed 0x74 .tstioN 421 "TSTIO" (fun n => [byteText n]) ∧
  RowD .ed 0x65 .peaIxd 424 "PEA" (fun d => [dispText .ix d]) ∧
  RowD .ed 0x66 .peaIyd 425 "PEA" (fun d => [dispText .iy d])

/-- Each row completes at its opcode with the text of its rule and, as every row, changes no other state: STMIX and
RSMIX leave the execution width as it is. The Z80 mirrors of RETN are other rows or unrepresented, and 0x4E is
unrepresented. (R422; R423; R426; R427; R428; R429; R430; R431; R432; R433) -/
def Obligations.EdControlRows : Prop :=
  PlainRow .ed 0x45 .retn 422 "RETN" [] ∧
  classify .ed 0x55 = .leaIyIxd ∧ classify .ed 0x65 = .peaIxd ∧ classify .ed 0x75 = .unrepEd 0x75 ∧
  PlainRow .ed 0x4D .reti 423 "RETI" [] ∧
  PlainRow .ed 0x6D .ldMbA 426 "LD" ["MB", "A"] ∧
  PlainRow .ed 0x6E .ldAMb 427 "LD" ["A", "MB"] ∧
  PlainRow .ed 0x7D .stmix 428 "STMIX" [] ∧
  PlainRow .ed 0x7E .rsmix 429 "RSMIX" [] ∧
  PlainRow .ed 0x46 .im0 430 "IM" ["0"] ∧ classify .ed 0x4E = .unrepEd 0x4E ∧
  PlainRow .ed 0x56 .im1 431 "IM" ["1"] ∧
  PlainRow .ed 0x5E .im2 432 "IM" ["2"] ∧
  PlainRow .ed 0x76 .slp 433 "SLP" []

/-- Each row completes at its opcode with the text of its rule. (R434; R435; R436; R437; R438; R439; R440; R441) -/
def Obligations.EdSpecialRegisterRows : Prop :=
  PlainRow .ed 0x47 .ldIA 434 "LD" ["I", "A"] ∧
  PlainRow .ed 0x4F .ldRefreshA 435 "LD" ["R", "A"] ∧
  PlainRow .ed 0x57 .ldAI 436 "LD" ["A", "I"] ∧
  PlainRow .ed 0x5F .ldARefresh 437 "LD" ["A", "R"] ∧
  PlainRow .ed 0x67 .rrd 438 "RRD" [] ∧
  PlainRow .ed 0x6F .rld 439 "RLD" [] ∧
  PlainRow .ed 0xC7 .ldIHl 440 "LD" ["I", "HL"] ∧
  PlainRow .ed 0xD7 .ldHlI 441 "LD" ["HL", "I"]

/-- Each block row completes at its opcode with its keyword alone, the suffix after it if a mode-select was taken, and
fetches no operand. (R471; R472; R473; R474; R475; R476; R477; R478; R479; R480; R481; R482) -/
def Obligations.EdBlockLoadRows : Prop :=
  PlainRow .ed 0xA0 .ldi 471 "LDI" [] ∧
  PlainRow .ed 0xA1 .cpi 472 "CPI" [] ∧
  PlainRow .ed 0xA2 .ini 473 "INI" [] ∧
  PlainRow .ed 0xA3 .outi 474 "OUTI" [] ∧
  PlainRow .ed 0xA4 .outi2 475 "OUTI2" [] ∧
  PlainRow .ed 0xA8 .ldd 476 "LDD" [] ∧
  PlainRow .ed 0xA9 .cpd 477 "CPD" [] ∧
  PlainRow .ed 0xAA .ind 478 "IND" [] ∧
  PlainRow .ed 0xAB .outd 479 "OUTD" [] ∧
  PlainRow .ed 0xAC .outd2 480 "OUTD2" [] ∧
  PlainRow .ed 0xB0 .ldir 481 "LDIR" [] ∧
  PlainRow .ed 0xB1 .cpir 482 "CPIR" []

/-- Each block row completes at its opcode with its keyword alone, the suffix after it if a mode-select was taken, and
fetches no operand. (R483; R484; R485; R486; R487; R488; R489; R490; R491; R492; R493; R494) -/
def Obligations.EdBlockRepeatRows : Prop :=
  PlainRow .ed 0xB2 .inir 483 "INIR" [] ∧
  PlainRow .ed 0xB3 .otir 484 "OTIR" [] ∧
  PlainRow .ed 0xB4 .oti2r 485 "OTI2R" [] ∧
  PlainRow .ed 0xB8 .lddr 486 "LDDR" [] ∧
  PlainRow .ed 0xB9 .cpdr 487 "CPDR" [] ∧
  PlainRow .ed 0xBA .indr 488 "INDR" [] ∧
  PlainRow .ed 0xBB .otdr 489 "OTDR" [] ∧
  PlainRow .ed 0xBC .otd2r 490 "OTD2R" [] ∧
  PlainRow .ed 0x82 .inim 491 "INIM" [] ∧
  PlainRow .ed 0x83 .otim 492 "OTIM" [] ∧
  PlainRow .ed 0x84 .ini2 493 "INI2" [] ∧
  PlainRow .ed 0x8A .indm 494 "INDM" []

/-- Each block row completes at its opcode with its keyword alone, the suffix after it if a mode-select was taken, and
fetches no operand. (R495; R496; R497; R498; R499; R500; R501; R502; R503; R504; R505; R506) -/
def Obligations.EdBlockEz80Rows : Prop :=
  PlainRow .ed 0x8B .otdm 495 "OTDM" [] ∧
  PlainRow .ed 0x8C .ind2 496 "IND2" [] ∧
  PlainRow .ed 0x92 .inimr 497 "INIMR" [] ∧
  PlainRow .ed 0x93 .otimr 498 "OTIMR" [] ∧
  PlainRow .ed 0x94 .ini2r 499 "INI2R" [] ∧
  PlainRow .ed 0x9A .indmr 500 "INDMR" [] ∧
  PlainRow .ed 0x9B .otdmr 501 "OTDMR" [] ∧
  PlainRow .ed 0x9C .ind2r 502 "IND2R" [] ∧
  PlainRow .ed 0xC2 .inirx 503 "INIRX" [] ∧
  PlainRow .ed 0xC3 .otirx 504 "OTIRX" [] ∧
  PlainRow .ed 0xCA .indrx 505 "INDRX" [] ∧
  PlainRow .ed 0xCB .otdrx 506 "OTDRX" []

/-- The bytes 0x40, 0x49, 0x52 and 0x5B select SIS, LIS, SIL and LIL in every base-page position in which no
mode-select was taken, also after an index prefix, and the prefix-only ending where one was. The row accepts the byte,
sets the suffix and stays in base-page position with every other piece of state unchanged. 0x76 is HALT, 0x64, 0x6D
and 0x7F are loads, no byte is LD B,B to LD E,E, and 0x40 is IN B,(C) as an ED opcode and BIT 0,B as a CB opcode.
(R107; R114) -/
def Obligations.ModeSelectRow : Prop :=
  (∀ y : Fin 8, y < 4 → ∀ rs, classify (.base false rs) (BitVec.ofNat 8 (0x40 + 9 * y.val)) = .modeSelect (suffixNamed y) ∧
    classify (.base true rs) (BitVec.ofNat 8 (0x40 + 9 * y.val)) = .prefixOnly) ∧
  (∀ c b sfx, classify c b = .modeSelect sfx → ∃ y : Fin 8, y < 4 ∧ b = BitVec.ofNat 8 (0x40 + 9 * y.val)) ∧
  (∀ (sfx : Suffix) (s : State) (b : Byte), s.runState = .running → Holds s s.cursor [b] →
    exec (.modeSelect sfx) s = .next { s with
      rawBytes := s.rawBytes ++ [b], cursor := s.cursor + 1, suffix := sfx, phase := .afterModeSelect }) ∧
  (∀ s : State, s.phase = .afterModeSelect → s.ctx = .base s.msSeen s.regSet) ∧
  (∀ ms, classify (.base ms .hl) 0x76 = .halt ∧ classify (.base ms .hl) 0x64 = .ldRR .h .h ∧
    classify (.base ms .hl) 0x6D = .ldRR .l .l ∧ classify (.base ms .hl) 0x7F = .ldRR .a .a) ∧
  (∀ ms rs b r, r = .b ∨ r = .c ∨ r = .d ∨ r = .e → classify (.base ms rs) b ≠ .ldRR r r) ∧
  classify .ed 0x40 = .inRC .b ∧ classify .cb 0x40 = .bitBR 0 .b ∧ ∀ sfx, Faults (.modeSelect sfx)

/-- With no index prefix taken, 0xDD selects the IX row and 0xFD the IY row, and no other byte does. The row accepts
the byte, sets regSet to IX or IY and changes no other state but the phase; the next byte is then classified in
base-page position with that register set. (R115) -/
def Obligations.IndexPrefixRow : Prop :=
  (∀ ms, classify (.base ms .hl) 0xDD = .indexPrefix .ix ∧ classify (.base ms .hl) 0xFD = .indexPrefix .iy) ∧
  (∀ c b x, classify c b = .indexPrefix x → b = 0xDD ∧ x = .ix ∨ b = 0xFD ∧ x = .iy) ∧
  (∀ (s : State) (b : Byte), s.runState = .running → Holds s s.cursor [b] →
    exec (.indexPrefix .ix) s = .next { s with
      rawBytes := s.rawBytes ++ [b], cursor := s.cursor + 1, regSet := .ix, phase := .afterDD } ∧
    exec (.indexPrefix .iy) s = .next { s with
      rawBytes := s.rawBytes ++ [b], cursor := s.cursor + 1, regSet := .iy, phase := .afterFD }) ∧
  (∀ s : State, s.phase = .afterDD ∨ s.phase = .afterFD → s.ctx = .base s.msSeen s.regSet) ∧ ∀ x, Faults (.indexPrefix x)

/-- With no index prefix taken, with or without a mode-select, 0xED selects the ED prefix row, which accepts the byte,
keeps the suffix and every other piece of state, and leaves phase AfterED, in which every byte is classified on the ED
page. After an index prefix 0xED is the prefix-only ending. (R116) -/
def Obligations.EdPrefixRow : Prop :=
  (∀ ms, classify (.base ms .hl) 0xED = .edPrefix) ∧ (∀ c b, classify c b = .edPrefix → b = 0xED) ∧
  (∀ ms rs, rs ≠ .hl → classify (.base ms rs) 0xED = .prefixOnly) ∧
  (∀ (s : State) (b : Byte), s.runState = .running → Holds s s.cursor [b] →
    exec .edPrefix s = .next { s with rawBytes := s.rawBytes ++ [b], cursor := s.cursor + 1, phase := .afterED }) ∧
  (∀ s : State, s.phase = .afterED → s.ctx = .ed) ∧ Faults .edPrefix

/-- 0xCB selects the CB prefix row in every base-page position. With no index prefix, or under IgnoreIndex, the next
byte is the CB opcode, whatever its value, and every CB opcode row has no operand; the CB page is the same with and
without an index prefix. With an index prefix and policy Indexed the next byte is read as the signed displacement and
the byte after it is classified on the indexed-CB page of that register set, where z = 6 selects rot, BIT, RES or SET
by x and y and every other z is unrepresented. (R117; R362; R375) -/
def Obligations.CbPrefixRow : Prop :=
  (∀ ms rs, classify (.base ms rs) 0xCB = .cbPrefix) ∧ (∀ c b, classify c b = .cbPrefix → b = 0xCB) ∧
  (∀ (s : State) (b : Byte), s.runState = .running → s.phase ≠ .afterIndexCB → Holds s s.cursor [b] →
    (s.regSet = .hl ∨ s.params.ddcbPolicy = .ignoreIndex →
      exec .cbPrefix s = .next { s with rawBytes := s.rawBytes ++ [b], cursor := s.cursor + 1, phase := .afterCB }) ∧
    (s.regSet ≠ .hl → s.params.ddcbPolicy = .indexed →
      exec .cbPrefix s = .next { s with
        rawBytes := s.rawBytes ++ [b], cursor := s.cursor + 1, phase := .afterIndexCB })) ∧
  (∀ s : State, s.phase = .afterCB → s.ctx = .cb) ∧
  (∀ k b f, formOf k (classify .cb b) = some f → f.recipe = .none ∧ f.page = .cb) ∧
  (∀ (s : State) (v : Byte), s.runState = .running → s.phase = .afterIndexCB → Holds s s.cursor [v] →
    exec .cbPrefix s = .next { s with rawBytes := s.rawBytes ++ [v], cursor := s.cursor + 1, d := some v.toInt }) ∧
  (∀ s : State, s.phase = .afterIndexCB → s.inbox = [] → s.runState = .running →
    (s.d = none → step s = exec .cbPrefix s) ∧
    (∀ x b, s.d ≠ none → indexOf s.regSet = some x → Holds s s.cursor [b] →
      step s = exec (classify (.indexCb x) b) s)) ∧
  (∀ (x : IndexReg) (q : Fin 4) (y z : Fin 8), z ≠ 6 → classify (.indexCb x) (xyz q.val y.val z.val) =
    perIndex x (.unrepIxCb (xyz q.val y.val z.val)) (.unrepIyCb (xyz q.val y.val z.val))) ∧
  (∀ x (y : Fin 8), classify (.indexCb x) (xyz 0 y.val 6) = rotIndexed x y ∧
    classify (.indexCb x) (xyz 1 y.val 6) = perIndex x (.bitBIxd y) (.bitBIyd y) ∧
    classify (.indexCb x) (xyz 2 y.val 6) = perIndex x (.resBIxd y) (.resBIyd y) ∧
    classify (.indexCb x) (xyz 3 y.val 6) = perIndex x (.setBIxd y) (.setBIyd y)) ∧ Faults .cbPrefix

/-- The prefix-only row completes the instruction with the bytes so far, no form, empty text and the cursor left at
the byte read; an unreadable byte is the stream fault. From every running state that meets the invariant, in base-page
position past a prefix: a second mode-select, a second index prefix, or ED after an index prefix makes the step
exactly this; the record has 1 or 2 bytes, and the next instruction starts at that byte. (R113) -/
def Obligations.PrefixOnlyEnding : Prop :=
  (∀ (s : State) (b : Byte), s.runState = .running → Holds s s.cursor [b] →
    exec .prefixOnly s = .next (completedBy s 0
      (recordAfter s [] s.op s.page s.d s.n s.w s.e .prefixOnly none ""))) ∧ Faults .prefixOnly ∧
  ∀ (s : State) (b : Byte), s.Inv → s.inbox = [] → s.runState = .running →
    (s.phase = .afterModeSelect ∨ s.phase = .afterDD ∨ s.phase = .afterFD) → Holds s s.cursor [b] →
    (s.suffix ≠ .none ∧ isModeSelect b = true ∨ s.regSet ≠ .hl ∧ (b = 0xDD ∨ b = 0xFD ∨ b = 0xED)) →
    ∃ t, t = completedBy s 0 (recordAfter s [] s.op s.page s.d s.n s.w s.e .prefixOnly none "") ∧ step s = .next t ∧
      (s.byteLength = 1 ∨ s.byteLength = 2) ∧ t.cursor = s.cursor ∧ t.settled.startAddress = s.cursor ∧
      t.settled.phase = .noPrefix

/-- With no request waiting and a run active: a completed instruction first gives way to the instruction start of the
next one (settled). In base-page position, after CB, after ED, and after the displacement of an indexed CB the step is
exec of the well-formed row that the byte at the cursor selects in the phase's context; before that displacement it is
exec of the CB prefix row; in phase Operands it is exec of the row the latched opcode selects, whatever the byte. A
byte that cannot be read is the stream fault. (30_encoding.md R110; 30_encoding.md R111; 30_encoding.md R118;
70_reset_and_hazards.md R708) -/
def Obligations.StepRunsTheDecodedRow : Prop :=
  ∀ s : State, s.inbox = [] → s.runState = .running →
    (∀ b, s.settled.phase ≠ .operands → (s.settled.phase = .afterIndexCB → s.settled.d ≠ none) →
      Holds s s.cursor [b] →
      step s = exec (classify s.settled.ctx b) s.settled ∧ (classify s.settled.ctx b).wellFormed = true) ∧
    (s.settled.phase ≠ .operands → (s.settled.phase = .afterIndexCB → s.settled.d ≠ none) →
      readable s.params s.cursor = false → step s = .next s.settled.raiseStreamFault) ∧
    (s.phase = .afterIndexCB → s.d = none → step s = exec .cbPrefix s) ∧
    (∀ p o, s.phase = .operands → s.page = some p → s.op = some o →
      step s = exec (classify (latchedCtx p s.regSet) o) s ∧ (classify (latchedCtx p s.regSet) o).wellFormed = true) ∧
    (s.phase ≠ .complete → s.settled = s) ∧ (s.phase = .complete → s.settled = started s)

/-- From every running state that meets the invariant: the row the next read belongs to is well formed; if it has a
form and no operand is pending, the state is at that row's opcode (AtOpcode with the form's page) and no operand latch
holds a value but the displacement of an indexed CB. So the premises of the completion statements shut out no state
that the invariant allows. (30_encoding.md R112; 30_encoding.md R121) -/
def Obligations.RowsRunAtTheirOpcode : Prop :=
  ∀ (s : State) (i : Instr), s.Inv → s.runState = .running → s.settled.nextInstr = .ok (some i) →
    i.wellFormed = true ∧
    ∀ f, formOf s.params.cbY7Mnemonic i = some f → s.settled.phase ≠ .operands →
      AtOpcode s.settled f.page ∧ (s.settled.d ≠ none ↔ f.page = .indexCb) ∧
      s.settled.n = none ∧ s.settled.w = none ∧ s.settled.e = none

/-- A step of a running block whose instruction is complete is the step of the state in which startAddress is the
cursor, the suffix is none, the register set HL, the phase NoPrefix, the raw bytes empty and every operand latch
without a value, with execWidth, cursor, remaining, fault and runState untouched and pendingPrefix false. (R702) -/
def Obligations.InstructionStartResets : Prop :=
  ∀ s : State, s.inbox = [] → s.runState = .running → s.phase = .complete →
    step s = step (started s) ∧ (started s).byteLength = 0 ∧ (started s).execWidth = s.execWidth ∧
    (started s).cursor = s.cursor ∧ (started s).remaining = s.remaining ∧ (started s).fault = s.fault ∧
    (started s).runState = s.runState ∧ (started s).pendingPrefix = false

/-- When no run is active and the host's oldest request is a start with a 24-bit START, COUNT of 0 or more, and width
flag 0, 1 or none, the step answers the state with the width (ADL for 1 and none), the cursor at START, remaining
COUNT, fault none, running (or done when COUNT is 0), every per-instruction register at its instruction start and no
record; only the stream, the parameters and the later requests are kept, so nothing carries over. No step of a running
block changes the width after that. (That a start performs the instruction start of R702 in the same step, also when
COUNT is 0, is the model's reading: log 10; that the step serves a waiting request is its choice: log 6.)
(70_reset_and_hazards.md R701; 70_reset_and_hazards.md R702; 92_eei_decisions.md D4) -/
def Obligations.RunStartSetsTheRun : Prop :=
  (∀ (s : State) (rest : List HostEvent) (start : Nat) (count : Int) (flag : Option Nat) (width : ExecWidth),
    s.runState ≠ .running → s.inbox = .start start count flag :: rest → start < 2 ^ 24 → 0 ≤ count →
    (flag = some 0 ∧ width = .z80Mode ∨ (flag = some 1 ∨ flag = none) ∧ width = .adlMode) →
    step s = .next (started { s with
      inbox := rest, execWidth := width, cursor := BitVec.ofNat 24 start, remaining := count, fault := .none
      runState := if count = 0 then .done else .running, emitted := [] })) ∧
  (∀ (s₁ s₂ t₁ t₂ : State) (ev : HostEvent), s₁.inbox = [ev] → s₂.inbox = [ev] →
    (∃ a c f, ev = .start a c f) → s₁.stream = s₂.stream → s₁.params = s₂.params →
    step s₁ = .next t₁ → step s₂ = .next t₂ → t₁ = t₂) ∧
  ∀ s t : State, s.runState = .running → step s = .next t → t.execWidth = s.execWidth

/-- State.reset is idle. In every idle state a host's read of runState answers Idle (R700 gives it that value; that
the host may read it then is the model's reading, log 3), its reads of fault, cursor and remaining are the fault of a
read before the first start, and neither a step with nothing requested nor any well-formed row that is applied makes a
read or changes the state (the model's choice, log 9). (70_reset_and_hazards.md R700; 92_eei_decisions.md D24) -/
def Obligations.PowerOnHoldsNoValue : Prop :=
  State.reset.runState = .idle ∧
  ∀ s : State, s.runState = .idle →
    hostRead s .runState = .value (.runState .idle) ∧ hostRead s .fault = .faultBeforeStart ∧
    hostRead s .cursor = .faultBeforeStart ∧ hostRead s .remaining = .faultBeforeStart ∧
    (∀ i : Instr, i.wellFormed = true → exec i s = .next s) ∧ (s.inbox = [] → step s = .next s)

/-- In every state that is done or faulted each of the four reads answers the register. In every running state each of
them is refused by name (that a read which R615 does not list is refused is the model's reading: log 3).
(60_exceptions.md R615) -/
def Obligations.HostReadsAfterARun : Prop :=
  ∀ s : State,
    (s.runState = .done ∨ s.runState = .faulted →
      hostRead s .runState = .value (.runState s.runState) ∧ hostRead s .fault = .value (.fault s.fault) ∧
      hostRead s .cursor = .value (.cursor s.cursor) ∧ hostRead s .remaining = .value (.remaining s.remaining)) ∧
    (s.runState = .running → ∀ r, hostRead s r = .refusedDuringRun)

/-- When no run is active a configure request sets the parameters; a setStream request, on a stream in canonical form,
makes that address read as the byte and leaves every other address; every other piece of state is unchanged, but the
request is taken. (The spec gives the host's inputs and no form of their delivery: that a request waits in the inbox
and that one step serves the oldest one is the model's choice, log 6.) (60_exceptions.md R615; 70_reset_and_hazards.md
R703; 20_memory.md R70) -/
def Obligations.HostRequestsOutsideARun : Prop :=
  ∀ (s : State) (rest : List HostEvent), s.runState ≠ .running →
    (∀ p, s.inbox = .configure p :: rest → step s = .next { s with params := p, inbox := rest }) ∧
    (∀ a b, s.stream.wf = true → s.inbox = .setStream a b :: rest →
      ∃ t, step s = .next t ∧ t = { s with stream := t.stream, inbox := rest } ∧ t.streamByte a = b ∧
        ∀ c, c ≠ a → t.streamByte c = s.streamByte c)

/-- During a run a start, a change of the parameters and a change of the stream are refused, each by its name; outside
a run a start whose START is no 24-bit value, whose COUNT is negative, or whose width flag is neither absent, 0 nor 1
is refused. (The spec has a model refuse these but for the parameters, of which R703 (2) only says that they are fixed
for the run: that a change of them is refused, and that a waiting request is served before a read, is the model's
choice, log 6.) (93_implementation_defined.md I3; 93_implementation_defined.md I4; 93_implementation_defined.md I5;
70_reset_and_hazards.md R703; 70_reset_and_hazards.md R706) -/
def Obligations.HostRequestsRefused : Prop :=
  ∀ (s : State) (rest : List HostEvent),
    (s.runState = .running →
      (∀ a c f, s.inbox = .start a c f :: rest → step s = .refused .startWhileRunning) ∧
      (∀ p, s.inbox = .configure p :: rest → step s = .refused .paramsChangedDuringRun) ∧
      (∀ a b, s.inbox = .setStream a b :: rest → step s = .refused .streamChangedDuringRun)) ∧
    (s.runState ≠ .running → ∀ a c f, s.inbox = .start a c f :: rest →
      (2 ^ 24 ≤ a ∨ c < 0 ∨ ∃ n, f = some n ∧ 2 ≤ n) → step s = .refused .inputOutOfType)

/-- For every well-formed row (the prefix rows and the prefix-only ending too), from every running state whose cursor
cannot be read: the answer is a state with fault StreamFault at the cursor and runState Faulted, with the cursor, the
records and remaining as they were. With the default parameters every address can be read. For every well-formed row
that fetches a word, the segment byte of a short word is no read: after the opcode and the two word bytes the row is
complete and has not faulted, also when the next address cannot be read. (R601) -/
def Obligations.EveryRowFaultsOnAnUnreadableByte : Prop :=
  (∀ i : Instr, i.wellFormed = true → Faults i) ∧ (∀ a, readable Params.default a = true) ∧
  ∀ (s : State) (i : Instr) (f : Form) (b lo mid : Byte), i.wellFormed = true →
    formOf s.params.cbY7Mnemonic i = some f → f.recipe = .w → AtOpcode s f.page → ¬ LongWord s →
    Holds s s.cursor [b, lo, mid] → readable s.params (s.cursor + 3) = false →
    ∃ t, execTimes 3 i s = .next t ∧ t.phase = .complete ∧ t.fault = s.fault ∧ t.runState ≠ .faulted

/-- From every running state that meets the invariant, with no request waiting and an unreadable byte at the cursor,
the step answers a state with the cursor at that byte, no record emitted and none ready, the records so far and
remaining as they were, fault StreamFault at that address and runState Faulted; it is no completed run, and a further
step makes no read and emits no record. (R602) -/
def Obligations.StreamFaultEndsTheRun : Prop :=
  ∀ s : State, s.Inv → s.inbox = [] → s.runState = .running → readable s.params s.cursor = false →
    ∃ t, step s = .next t ∧ t.cursor = s.cursor ∧ t.output = none ∧ t.emitted = s.emitted ∧
      t.fault = .streamFault s.cursor ∧ t.runState = .faulted ∧ t.remaining = s.remaining ∧ ¬ t.completedRun ∧
      ∀ u, step t = .next u → u.cursor = t.cursor ∧ u.emitted = t.emitted ∧ u.runState = .faulted

/-- For every step that answers a next state: runState and fault are unchanged; or a start request was served from a
state that is not running; or a running block completed an instruction that used the budget up and is done, with fault
unchanged; or it is faulted at the unreadable cursor. So Done and Faulted are final until the next start, and no
decoded instruction (DI, EI, HALT, SLP among them) ends or pauses a run. (That a step serves a waiting request is the
model's choice, log 6; that nothing happens with none waiting and no run active, log 9.) (10_state.md R42; 10_state.md
R41; 60_exceptions.md R605; 60_exceptions.md R608) -/
def Obligations.RunStateTransitions : Prop :=
  ∀ s t : State, step s = .next t →
    (t.runState = s.runState ∧ t.fault = s.fault) ∨
    (s.runState ≠ .running ∧ t.fault = .none ∧ (t.runState = .running ∨ t.runState = .done) ∧
      ∃ a c f rest, s.inbox = .start a c f :: rest) ∨
    (s.runState = .running ∧ t.runState = .done ∧ t.fault = s.fault ∧ t.phase = .complete ∧ t.remaining ≤ 0) ∨
    (s.runState = .running ∧ t.runState = .faulted ∧ t.fault = .streamFault s.cursor ∧ readable s.params s.cursor = false)

/-- With no request waiting, every step that answers a next state leaves every byte of the stream, the parameters and
the execution width as they were; the records emitted before stay in order and at most one is added; either nothing is
accepted and the cursor stays, or exactly the byte at the cursor is appended to the raw bytes of the instruction and
the cursor advances by 1 mod 2^24. (That the raw bytes stay after a stream fault is the model's choice: log 11.)
(10_state.md R30; 10_state.md R33; 20_memory.md R70; 20_memory.md R72; 70_reset_and_hazards.md R705) -/
def Obligations.FrameOfAStep : Prop :=
  ∀ s t : State, s.inbox = [] → step s = .next t →
    t.stream = s.stream ∧ t.params = s.params ∧ t.execWidth = s.execWidth ∧ t.inbox = [] ∧
    (t.emitted = s.emitted ∨ ∃ r, t.emitted = s.emitted ++ [r]) ∧
    (t.cursor = s.cursor ∧ (s.runState = .running → t.rawBytes = s.settled.rawBytes) ∨
      t.cursor = s.cursor + 1 ∧ t.rawBytes = s.settled.rawBytes ++ [s.streamByte s.cursor] ∧
        readable s.params s.cursor = true)

/-- From every state that meets the invariant with an instruction in progress and no request waiting: once the suffix
is not none, or the register set not HL, a step keeps it. (10_state.md R31; 10_state.md R32; 30_encoding.md R113) -/
def Obligations.PrefixRegistersWrittenOnce : Prop :=
  ∀ s t : State, s.Inv → s.inbox = [] → s.phase ≠ .complete → step s = .next t →
    (s.suffix ≠ .none → t.suffix = s.suffix) ∧ (s.regSet ≠ .hl → t.regSet = s.regSet)

/-- For every step with no request waiting, remaining plus the bytes of the emitted records is what it was; a running
block that meets the invariant goes on exactly while the budget is positive, or it has faulted; and remaining never
falls below -5, so a run accepts at most COUNT + 5 bytes. (10_state.md R39; 30_encoding.md R140;
70_reset_and_hazards.md R709) -/
def Obligations.BudgetCountsInstructionBytes : Prop :=
  (∀ s t : State, s.inbox = [] → step s = .next t → t.remaining + t.emittedBytes = s.remaining + s.emittedBytes) ∧
  ∀ s t : State, s.Inv → s.inbox = [] → s.runState = .running → step s = .next t →
    (t.runState = .faulted ∨ (t.runState = .running ↔ 0 < t.remaining)) ∧ -5 ≤ t.remaining

/-- From every running state that meets the invariant, whenever a step makes a record ready: a prefix-only record has
as many bytes as prefix classes were taken; any other has those, the page prefix of the CB, indexed-CB and ED pages,
the opcode, and one byte for each of d, n and e that is present and three or two for w as the width rule says; an
unrepresented record has no operand but the displacement of an indexed CB; the length is 1 to 6. (30_encoding.md R121;
30_encoding.md R122; 30_encoding.md R123) -/
def Obligations.RecordLengthOfEveryStep : Prop :=
  ∀ (s t : State) (r : DecodedInstruction), s.Inv → s.inbox = [] → s.runState = .running → step s = .next t →
    t.output = some r →
    1 ≤ r.byteLength ∧ r.byteLength ≤ 6 ∧ r.byteLength = r.rawBytes.length ∧
    (r.kind = .prefixOnly → r.byteLength = t.prefixCount ∧ r.byteLength ≤ 2) ∧
    (r.kind ≠ .prefixOnly → ∀ long : Bool, (long = true ↔ LongWord t) →
      r.byteLength = t.prefixCount + (if r.page = some .base then 0 else 1) + 1 +
        r.d.isSome.toNat + r.n.isSome.toNat + r.e.isSome.toNat + r.w.isSome.toNat * (if long then 3 else 2)) ∧
    (r.kind = .unrepresented → r.n = none ∧ r.w = none ∧ r.e = none ∧ (r.d ≠ none ↔ r.page = some .indexCb))

/-- For every state that meets the invariant: if its records lie one after the other and the instruction in progress
starts where the last record ended (or the cursor stands there, once it is complete), a step keeps this. Addresses are
mod 2^24. (30_encoding.md R141; 10_state.md R33) -/
def Obligations.RecordsAreContiguous : Prop :=
  ∀ s t : State, s.Inv → s.Contiguous → step s = .next t → t.Contiguous

/-- State.reset meets State.Inv and has no records to lie apart. (The values it rests on are the model's: log 2.)
(10_state.md R47; 70_reset_and_hazards.md R700) -/
def Obligations.InvariantAtReset : Prop :=
  State.reset.Inv ∧ State.reset.Contiguous

/-- The invariant: the stream keeps its canonical form; at most 6 raw bytes, and the cursor is the start address plus
their number mod 2^24; a suffix or a register set other than the reset value comes from a prefix byte among the first
two; the phase is Complete exactly when a record is ready, which is the last one emitted; every record has 1 to 6
bytes, its length counts them, its text is empty exactly when it is not Full and its form absent exactly when it is
PrefixOnly; a running block has the bytes and latches its phase asks for and a positive budget; a done one has used it
up; Faulted goes with a fault. (10_state.md R47; 10_state.md R35; 10_state.md R40; 30_encoding.md R112; 30_encoding.md
R121) -/
def Obligations.StepKeepsTheInvariant : Prop :=
  ∀ s t : State, s.Inv → step s = .next t → t.Inv

/-- No byte sequence stops the machine: with no request waiting a step answers a next state, and with one it answers a
next state or a refusal. (60_exceptions.md R600; 60_exceptions.md R604; 30_encoding.md R124; 30_encoding.md R150) -/
def Obligations.StepNeverStopsARun : Prop :=
  ∀ s : State, s.Inv → (∀ f, step s ≠ .fault f) ∧ (s.inbox = [] → ∃ t, step s = .next t)

/-- With no request waiting, replacing the stream by one that holds the same byte at the cursor gives the same answer,
with the new stream in it. (20_memory.md R72; 20_memory.md R79; 20_memory.md R80; 70_reset_and_hazards.md R708) -/
def Obligations.StepDependsOnOneByte : Prop :=
  ∀ (s : State) (m : Memory), s.inbox = [] → memRead m s.cursor.toNat = memRead s.stream s.cursor.toNat →
    step { s with stream := m } = withStream m (step s)

/-- From every running state that meets the invariant and is at the start of an instruction, with no request waiting:
within 6 steps either a record is ready that starts at the cursor, is added to the records, is paid from the budget
and took exactly its length in reads (one more for a prefix-only one), or the run is faulted with no record added and
the budget as it was. (70_reset_and_hazards.md R709; 30_encoding.md R121; 30_encoding.md R113) -/
def Obligations.InstructionTakesAtMostSixReads : Prop :=
  ∀ s : State, s.Inv → s.inbox = [] → s.runState = .running → (s.phase = .noPrefix ∨ s.phase = .complete) →
    ∃ k t, 1 ≤ k ∧ k ≤ 6 ∧ stepTimes k s = .next t ∧
      ((∃ r, t.phase = .complete ∧ t.output = some r ∧ t.emitted = s.emitted ++ [r] ∧ r.startAddress = s.cursor ∧
          t.remaining = s.remaining - r.byteLength ∧
          k = r.byteLength + (if r.kind = .prefixOnly then 1 else 0)) ∨
        (t.runState = .faulted ∧ t.emitted = s.emitted ∧ t.remaining = s.remaining))

/-- From every running state that meets the invariant and is at the start of an instruction, with no request waiting,
some number of steps of at most 6 times remaining reaches a state whose runState is Done or Faulted.
(70_reset_and_hazards.md R709; 30_encoding.md R140) -/
def Obligations.EveryRunTerminates : Prop :=
  ∀ s : State, s.Inv → s.inbox = [] → s.runState = .running → (s.phase = .noPrefix ∨ s.phase = .complete) →
    ∃ (k : Nat) (t : State), (k : Int) ≤ 6 * s.remaining ∧ stepTimes k s = .next t ∧ (t.runState = .done ∨ t.runState = .faulted)

/-- From every running instruction start that meets the invariant, with these bytes readable at the cursor: if the
decoder, under the block's policy, finds a row at the end of the prefix chain, then as many steps as bytes stand
before the one that selects it reach a state that has accepted those bytes, is in the decoder's context, has the
budget and the records as before, and whose next read belongs to that row. (30_encoding.md R110; 30_encoding.md R111;
30_encoding.md R112; 30_encoding.md R118) -/
def Obligations.StepsFollowThePrefixChain : Prop :=
  ∀ (s : State) (bytes rest : List Byte) (c : Ctx) (i : Instr), s.Inv → s.inbox = [] → s.runState = .running →
    s.phase = .noPrefix → Holds s s.cursor bytes →
    decodeChain s.params.ddcbPolicy (.base false .hl) bytes = .ok (c, i, rest) →
    ∃ k t, (k + rest.length + if i = .prefixOnly then 0 else 1) = bytes.length ∧ stepTimes k s = .next t ∧
      t.rawBytes = bytes.take k ∧ t.cursor = s.cursor + BitVec.ofNat 24 k ∧ t.ctx = c ∧ t.nextInstr = .ok (some i) ∧
      t.phase ≠ .operands ∧ t.runState = .running ∧ t.remaining = s.remaining ∧ t.emitted = s.emitted

/-- For every context and every byte: the row is well formed, its table is one that the context admits, the byte is
the row's own opcode byte unless the row is the prefix-only ending, and then it is a prefix byte whose class was
taken. So every byte has an outcome in every context. (30_encoding.md R124; 30_encoding.md R150; 30_encoding.md R110)
-/
def Obligations.EveryByteSelectsOneRow : Prop :=
  ∀ (c : Ctx) (b : Byte),
    (classify c b).wellFormed = true ∧ (home (classify c b)).admits c = true ∧
    (classify c b ≠ .prefixOnly → opcode (classify c b) = some b) ∧
    (classify c b = .prefixOnly ↔ ∃ ms rs, c = .base ms rs ∧
      (ms = true ∧ isModeSelect b = true ∨ rs ≠ .hl ∧ (b = 0xDD ∨ b = 0xFD ∨ b = 0xED)))

/-- For every well-formed row that is no prefix row, every displacement byte, every mode-select or none before it, and
any bytes after it: the prefix chain read from the mode-select byte, the page's prefix bytes and the opcode byte ends
at that row, in the row's context, with exactly the bytes after it left (under policy Indexed for the indexed-CB rows,
under either policy for the others). And every well-formed row, the prefix rows too, is the row its own opcode byte
selects in every context that admits it. (30_encoding.md R100; 30_encoding.md R111; 30_encoding.md R114;
30_encoding.md R124) -/
def Obligations.DecodeOfEncodeIsTheRow : Prop :=
  (∀ (i : Instr) (c : Ctx) (b : Byte) (rest : List Byte), i.wellFormed = true → (home i).admits c = true →
    opcode i = some b → decode c (b :: rest) = .ok (i, rest)) ∧
  ∀ (i : Instr) (d : Byte) (sfx : Suffix) (pol : DdcbPolicy) (rest : List Byte), i.wellFormed = true →
    formOf .srl i ≠ none → (pol = .indexed ∨ ∀ x, home i ≠ .indexCb x) →
    ∃ c, (home i).admits c = true ∧
      decodeChain pol (.base false .hl) ((modeSelectByte sfx).toList ++ encodeWith d i ++ rest) = .ok (c, i, rest)

/-- With no index prefix 8 bytes of base-page position are prefixes and 248 are full forms of R200 to R263; none is
unrepresented. After an index prefix 4 are mode-selects, 3 end the instruction, one is CB, 95 are indexed forms and
153 are unchanged (R330); 121 ED opcodes and 224 indexed-CB opcodes are unrepresented (R123, R374). (R264) -/
def Obligations.PageCounts : Prop :=
  (countBytes (fun b => (home (classify (.base false .hl) b) != .base)) = 8 ∧
    (∀ b : Byte, home (classify (.base false .hl) b) ≠ .base ↔ b ∈ [0x40, 0x49, 0x52, 0x5B, 0xCB, 0xDD, 0xED, 0xFD])) ∧
  countBytes (fun b => isFull (classify (.base false .hl) b) && home (classify (.base false .hl) b) == .base) = 248 ∧
  (∀ b : Byte, home (classify (.base false .hl) b) = .base →
    ∃ n ∈ List.range 64, ruleOf (classify (.base false .hl) b) = some (200 + n)) ∧
  (∀ rs, rs ≠ .hl → countBytes (fun b => home (classify (.base false rs) b) == .modeSelect) = 4 ∧
    countBytes (fun b => classify (.base false rs) b == .prefixOnly) = 3 ∧
    countBytes (fun b => classify (.base false rs) b == .cbPrefix) = 1 ∧
    countBytes (fun b => isIgnored (classify (.base false rs) b)) = 153 ∧
    countBytes (fun b => isFull (classify (.base false rs) b) && !isIgnored (classify (.base false rs) b)) = 95) ∧
  countBytes (fun b => !isFull (classify .ed b)) = 121 ∧ countBytes (fun b => !isFull (classify .cb b)) = 0 ∧
  ∀ x, countBytes (fun b => !isFull (classify (.indexCb x) b)) = 224

/-- 49 78 is LD.LIS A,B; 5B DD 21 and DD 5B 21 are LD IX,nn; FD ED 44 ends prefix-only before ED; DD CB 06 06 is RLC
(IX+6); 5B ED 4B is LD BC,(nn); ED B9 is CPDR; ED A5 is unrepresented; ED CB is OTDRX; CB CB is SET 1,E; FD 76 is HALT
unchanged. (30_encoding.md R114; 30_encoding.md R117; 41_base_indexed.md R302; 43_ed_page.md R415; 44_ed_block.md
R487) -/
def Obligations.SpecWordsDecode : Prop :=
  decodeChain .indexed (.base false .hl) [0x49, 0x78] = .ok (.base true .hl, .ldRR .a .b, []) ∧
  decodeChain .indexed (.base false .hl) [0x5B, 0xDD, 0x21, 0x01] = .ok (.base true .ix, .ldIxNn, [0x01]) ∧
  decodeChain .indexed (.base false .hl) [0xDD, 0x5B, 0x21, 0x01] = .ok (.base true .ix, .ldIxNn, [0x01]) ∧
  decodeChain .indexed (.base false .hl) [0xFD, 0xED, 0x44] = .ok (.base false .iy, .prefixOnly, [0xED, 0x44]) ∧
  decodeChain .indexed (.base false .hl) [0xDD, 0xCB, 0x06, 0x06] = .ok (.indexCb .ix, .rlcIxd, []) ∧
  decodeChain .ignoreIndex (.base false .hl) [0xDD, 0xCB, 0x06] = .ok (.cb, .rlcR .mhl, []) ∧
  decodeChain .indexed (.base false .hl) [0x5B, 0xED, 0x4B, 0x00] = .ok (.ed, .ldRrMem .bc, [0x00]) ∧
  decodeChain .indexed (.base false .hl) [0xED, 0xB9] = .ok (.ed, .cpdr, []) ∧
  decodeChain .indexed (.base false .hl) [0xED, 0xA5] = .ok (.ed, .unrepEdBlock 0xA5, []) ∧
  decodeChain .indexed (.base false .hl) [0xED, 0xCB] = .ok (.ed, .otdrx, []) ∧
  decodeChain .indexed (.base false .hl) [0xCB, 0xCB] = .ok (.cb, .setBR 1 .e, []) ∧
  decodeChain .indexed (.base false .hl) [0xFD, 0x76] = .ok (.base false .iy, .baseIyIgnored 0x76, [])

/-- Whenever a row with a text completes and its operands have values, the text is the keyword, then a point and the
suffix if one was taken, then, if there are operands, one space and the operands joined by commas; a row without a
text completes as Unrepresented with empty text, and the prefix-only ending has empty text. (R130) -/
def Obligations.TextOfAFullInstruction : Prop :=
  (∀ (f : Form) (s : State) (kw : String) (operands : List Operand) (ts : List String), f.body = some (kw, operands) →
    renderOperands s operands = some ts →
    complete f s = .next (s.finish .full (some f.rule) (rendered kw s.suffix ts))) ∧
  (∀ (f : Form) (s : State), f.body = none → complete f s = .next (s.finish .unrepresented (some f.rule) "")) ∧
  ∀ (s t : State), exec .prefixOnly s = .next t → t.phase = .complete → s.phase ≠ .complete →
    ∃ r, t.output = some r ∧ r.mnemonicText = ""

/-- For every byte and every word the characters are & and the hexadecimal digits, the highest first, zero-padded;
ports and memory operands are the same in parentheses. (30_encoding.md R131; 30_encoding.md R132; 30_encoding.md R135)
-/
def Obligations.HexadecimalText : Prop :=
  (∀ b : Byte, (byteText b).toList = ['&', hexName (b.toNat / 16), hexName (b.toNat % 16)]) ∧
  (∀ w : Addr, (wordText w).toList = ['&', hexName (w.toNat / 16 ^ 5), hexName (w.toNat / 16 ^ 4 % 16),
    hexName (w.toNat / 16 ^ 3 % 16), hexName (w.toNat / 16 ^ 2 % 16), hexName (w.toNat / 16 % 16), hexName (w.toNat % 16)]) ∧
  ∀ (b : Byte) (w : Addr), portText b = "(" ++ byteText b ++ ")" ∧ memText w = "(" ++ wordText w ++ ")"

/-- For IX and IY and every displacement from -128 to 127: the memory operand is the register, + or -, and the
magnitude in decimal with no leading zero, in parentheses; the address operand of LEA and PEA is the same without
parentheses. (R133; R134) -/
def Obligations.DisplacementText : Prop :=
  ∀ (s : State) (x : IndexReg) (d : Int), -128 ≤ d → d ≤ 127 → s.d = some d →
    renderOperand s (.ind x) = some ("(" ++ sName x ++ (if 0 ≤ d then "+" else "-") ++ toString d.natAbs ++ ")") ∧
    renderOperand s (.disp x) = some (sName x ++ (if 0 ≤ d then "+" else "-") ++ toString d.natAbs)

/-- For IX and IY and every byte of the list of R301, from every state in which the instruction is not complete:
whenever a read of that row completes it, the record that is ready names rule 301 as its form. (The spec does not say
whether it names R301 or the rule of the base row: the model's reading, log 12.) (41_base_indexed.md R301; 10_state.md
R40) -/
def Obligations.IndexInsensitiveRowsRecordForm301 : Prop :=
  ∀ x op, indexInsensitive op = true → ∀ s t : State, s.phase ≠ .complete →
    exec (perIndex x (.baseIxIgnored op) (.baseIyIgnored op)) s = .next t → t.phase = .complete →
    ∃ r, t.output = some r ∧ r.form = some 301 ∧ r.kind = .full

/-- For every well-formed row, from every running state whose cursor cannot be read, the answer differs from the state
in fault and runState alone; so does the answer of a step, from every such state that meets the invariant and with no
request waiting, from the state with a complete instruction given way to the next instruction start. (R602 (b) says
that the bytes are lost; that they stay in the registers, where no record and no host read shows them, is the model's
choice: log 11.) A done or faulted block stays as it is in a step with no request waiting, and under every well-formed
row that is applied to it (the model's choice: log 9). (60_exceptions.md R602; 10_state.md R42) -/
def Obligations.StreamFaultKeepsTheOtherRegisters : Prop :=
  (∀ i : Instr, i.wellFormed = true → ∀ s : State, s.runState = .running → readable s.params s.cursor = false →
    exec i s = .next (faultedAt s)) ∧
  (∀ s : State, s.Inv → s.inbox = [] → s.runState = .running → readable s.params s.cursor = false →
    step s = .next (faultedAt s.settled)) ∧
  ∀ s : State, s.runState = .done ∨ s.runState = .faulted →
    (s.inbox = [] → step s = .next s) ∧ ∀ i : Instr, i.wellFormed = true → exec i s = .next s
end

