-- ==== Sys2Proof/Laws/State.lean ====
section
/-! SUPPORT. What each named update of the state leaves in each field: one lemma per field per update, true by unfolding. -/

namespace Sys2Proof.Machine

-- accept

@[simp] theorem State.accept_stream (s : State) (b : Byte) : (s.accept b).stream = s.stream := rfl
@[simp] theorem State.accept_params (s : State) (b : Byte) : (s.accept b).params = s.params := rfl
@[simp] theorem State.accept_execWidth (s : State) (b : Byte) : (s.accept b).execWidth = s.execWidth := rfl
@[simp] theorem State.accept_suffix (s : State) (b : Byte) : (s.accept b).suffix = s.suffix := rfl
@[simp] theorem State.accept_regSet (s : State) (b : Byte) : (s.accept b).regSet = s.regSet := rfl
@[simp] theorem State.accept_cursor (s : State) (b : Byte) : (s.accept b).cursor = s.cursor + 1 := rfl
@[simp] theorem State.accept_startAddress (s : State) (b : Byte) : (s.accept b).startAddress = s.startAddress := rfl
@[simp] theorem State.accept_rawBytes (s : State) (b : Byte) : (s.accept b).rawBytes = s.rawBytes ++ [b] := rfl
@[simp] theorem State.accept_phase (s : State) (b : Byte) : (s.accept b).phase = s.phase := rfl
@[simp] theorem State.accept_op (s : State) (b : Byte) : (s.accept b).op = s.op := rfl
@[simp] theorem State.accept_page (s : State) (b : Byte) : (s.accept b).page = s.page := rfl
@[simp] theorem State.accept_d (s : State) (b : Byte) : (s.accept b).d = s.d := rfl
@[simp] theorem State.accept_n (s : State) (b : Byte) : (s.accept b).n = s.n := rfl
@[simp] theorem State.accept_w (s : State) (b : Byte) : (s.accept b).w = s.w := rfl
@[simp] theorem State.accept_e (s : State) (b : Byte) : (s.accept b).e = s.e := rfl
@[simp] theorem State.accept_remaining (s : State) (b : Byte) : (s.accept b).remaining = s.remaining := rfl
@[simp] theorem State.accept_output (s : State) (b : Byte) : (s.accept b).output = s.output := rfl
@[simp] theorem State.accept_fault (s : State) (b : Byte) : (s.accept b).fault = s.fault := rfl
@[simp] theorem State.accept_runState (s : State) (b : Byte) : (s.accept b).runState = s.runState := rfl
@[simp] theorem State.accept_emitted (s : State) (b : Byte) : (s.accept b).emitted = s.emitted := rfl
@[simp] theorem State.accept_inbox (s : State) (b : Byte) : (s.accept b).inbox = s.inbox := rfl

-- latchN

@[simp] theorem State.latchN_stream (s : State) (b : Byte) : (s.latchN b).stream = s.stream := rfl
@[simp] theorem State.latchN_params (s : State) (b : Byte) : (s.latchN b).params = s.params := rfl
@[simp] theorem State.latchN_execWidth (s : State) (b : Byte) : (s.latchN b).execWidth = s.execWidth := rfl
@[simp] theorem State.latchN_suffix (s : State) (b : Byte) : (s.latchN b).suffix = s.suffix := rfl
@[simp] theorem State.latchN_regSet (s : State) (b : Byte) : (s.latchN b).regSet = s.regSet := rfl
@[simp] theorem State.latchN_cursor (s : State) (b : Byte) : (s.latchN b).cursor = s.cursor + 1 := rfl
@[simp] theorem State.latchN_startAddress (s : State) (b : Byte) : (s.latchN b).startAddress = s.startAddress := rfl
@[simp] theorem State.latchN_rawBytes (s : State) (b : Byte) : (s.latchN b).rawBytes = s.rawBytes ++ [b] := rfl
@[simp] theorem State.latchN_phase (s : State) (b : Byte) : (s.latchN b).phase = s.phase := rfl
@[simp] theorem State.latchN_op (s : State) (b : Byte) : (s.latchN b).op = s.op := rfl
@[simp] theorem State.latchN_page (s : State) (b : Byte) : (s.latchN b).page = s.page := rfl
@[simp] theorem State.latchN_d (s : State) (b : Byte) : (s.latchN b).d = s.d := rfl
@[simp] theorem State.latchN_n (s : State) (b : Byte) : (s.latchN b).n = some b := rfl
@[simp] theorem State.latchN_w (s : State) (b : Byte) : (s.latchN b).w = s.w := rfl
@[simp] theorem State.latchN_e (s : State) (b : Byte) : (s.latchN b).e = s.e := rfl
@[simp] theorem State.latchN_remaining (s : State) (b : Byte) : (s.latchN b).remaining = s.remaining := rfl
@[simp] theorem State.latchN_output (s : State) (b : Byte) : (s.latchN b).output = s.output := rfl
@[simp] theorem State.latchN_fault (s : State) (b : Byte) : (s.latchN b).fault = s.fault := rfl
@[simp] theorem State.latchN_runState (s : State) (b : Byte) : (s.latchN b).runState = s.runState := rfl
@[simp] theorem State.latchN_emitted (s : State) (b : Byte) : (s.latchN b).emitted = s.emitted := rfl
@[simp] theorem State.latchN_inbox (s : State) (b : Byte) : (s.latchN b).inbox = s.inbox := rfl

-- latchD

@[simp] theorem State.latchD_stream (s : State) (b : Byte) : (s.latchD b).stream = s.stream := rfl
@[simp] theorem State.latchD_params (s : State) (b : Byte) : (s.latchD b).params = s.params := rfl
@[simp] theorem State.latchD_execWidth (s : State) (b : Byte) : (s.latchD b).execWidth = s.execWidth := rfl
@[simp] theorem State.latchD_suffix (s : State) (b : Byte) : (s.latchD b).suffix = s.suffix := rfl
@[simp] theorem State.latchD_regSet (s : State) (b : Byte) : (s.latchD b).regSet = s.regSet := rfl
@[simp] theorem State.latchD_cursor (s : State) (b : Byte) : (s.latchD b).cursor = s.cursor + 1 := rfl
@[simp] theorem State.latchD_startAddress (s : State) (b : Byte) : (s.latchD b).startAddress = s.startAddress := rfl
@[simp] theorem State.latchD_rawBytes (s : State) (b : Byte) : (s.latchD b).rawBytes = s.rawBytes ++ [b] := rfl
@[simp] theorem State.latchD_phase (s : State) (b : Byte) : (s.latchD b).phase = s.phase := rfl
@[simp] theorem State.latchD_op (s : State) (b : Byte) : (s.latchD b).op = s.op := rfl
@[simp] theorem State.latchD_page (s : State) (b : Byte) : (s.latchD b).page = s.page := rfl
@[simp] theorem State.latchD_d (s : State) (b : Byte) : (s.latchD b).d = some (sext8 b) := rfl
@[simp] theorem State.latchD_n (s : State) (b : Byte) : (s.latchD b).n = s.n := rfl
@[simp] theorem State.latchD_w (s : State) (b : Byte) : (s.latchD b).w = s.w := rfl
@[simp] theorem State.latchD_e (s : State) (b : Byte) : (s.latchD b).e = s.e := rfl
@[simp] theorem State.latchD_remaining (s : State) (b : Byte) : (s.latchD b).remaining = s.remaining := rfl
@[simp] theorem State.latchD_output (s : State) (b : Byte) : (s.latchD b).output = s.output := rfl
@[simp] theorem State.latchD_fault (s : State) (b : Byte) : (s.latchD b).fault = s.fault := rfl
@[simp] theorem State.latchD_runState (s : State) (b : Byte) : (s.latchD b).runState = s.runState := rfl
@[simp] theorem State.latchD_emitted (s : State) (b : Byte) : (s.latchD b).emitted = s.emitted := rfl
@[simp] theorem State.latchD_inbox (s : State) (b : Byte) : (s.latchD b).inbox = s.inbox := rfl

-- latchE

@[simp] theorem State.latchE_stream (s : State) (b : Byte) : (s.latchE b).stream = s.stream := rfl
@[simp] theorem State.latchE_params (s : State) (b : Byte) : (s.latchE b).params = s.params := rfl
@[simp] theorem State.latchE_execWidth (s : State) (b : Byte) : (s.latchE b).execWidth = s.execWidth := rfl
@[simp] theorem State.latchE_suffix (s : State) (b : Byte) : (s.latchE b).suffix = s.suffix := rfl
@[simp] theorem State.latchE_regSet (s : State) (b : Byte) : (s.latchE b).regSet = s.regSet := rfl
@[simp] theorem State.latchE_cursor (s : State) (b : Byte) : (s.latchE b).cursor = s.cursor + 1 := rfl
@[simp] theorem State.latchE_startAddress (s : State) (b : Byte) : (s.latchE b).startAddress = s.startAddress := rfl
@[simp] theorem State.latchE_rawBytes (s : State) (b : Byte) : (s.latchE b).rawBytes = s.rawBytes ++ [b] := rfl
@[simp] theorem State.latchE_phase (s : State) (b : Byte) : (s.latchE b).phase = s.phase := rfl
@[simp] theorem State.latchE_op (s : State) (b : Byte) : (s.latchE b).op = s.op := rfl
@[simp] theorem State.latchE_page (s : State) (b : Byte) : (s.latchE b).page = s.page := rfl
@[simp] theorem State.latchE_d (s : State) (b : Byte) : (s.latchE b).d = s.d := rfl
@[simp] theorem State.latchE_n (s : State) (b : Byte) : (s.latchE b).n = s.n := rfl
@[simp] theorem State.latchE_w (s : State) (b : Byte) : (s.latchE b).w = s.w := rfl
@[simp] theorem State.latchE_e (s : State) (b : Byte) : (s.latchE b).e = some (relativeTarget (s.cursor + 1) b) := rfl
@[simp] theorem State.latchE_remaining (s : State) (b : Byte) : (s.latchE b).remaining = s.remaining := rfl
@[simp] theorem State.latchE_output (s : State) (b : Byte) : (s.latchE b).output = s.output := rfl
@[simp] theorem State.latchE_fault (s : State) (b : Byte) : (s.latchE b).fault = s.fault := rfl
@[simp] theorem State.latchE_runState (s : State) (b : Byte) : (s.latchE b).runState = s.runState := rfl
@[simp] theorem State.latchE_emitted (s : State) (b : Byte) : (s.latchE b).emitted = s.emitted := rfl
@[simp] theorem State.latchE_inbox (s : State) (b : Byte) : (s.latchE b).inbox = s.inbox := rfl

-- raiseStreamFault

@[simp] theorem State.raiseStreamFault_stream (s : State) : (s.raiseStreamFault).stream = s.stream := rfl
@[simp] theorem State.raiseStreamFault_params (s : State) : (s.raiseStreamFault).params = s.params := rfl
@[simp] theorem State.raiseStreamFault_execWidth (s : State) : (s.raiseStreamFault).execWidth = s.execWidth := rfl
@[simp] theorem State.raiseStreamFault_suffix (s : State) : (s.raiseStreamFault).suffix = s.suffix := rfl
@[simp] theorem State.raiseStreamFault_regSet (s : State) : (s.raiseStreamFault).regSet = s.regSet := rfl
@[simp] theorem State.raiseStreamFault_cursor (s : State) : (s.raiseStreamFault).cursor = s.cursor := rfl
@[simp] theorem State.raiseStreamFault_startAddress (s : State) :
    (s.raiseStreamFault).startAddress = s.startAddress := rfl
@[simp] theorem State.raiseStreamFault_rawBytes (s : State) : (s.raiseStreamFault).rawBytes = s.rawBytes := rfl
@[simp] theorem State.raiseStreamFault_phase (s : State) : (s.raiseStreamFault).phase = s.phase := rfl
@[simp] theorem State.raiseStreamFault_op (s : State) : (s.raiseStreamFault).op = s.op := rfl
@[simp] theorem State.raiseStreamFault_page (s : State) : (s.raiseStreamFault).page = s.page := rfl
@[simp] theorem State.raiseStreamFault_d (s : State) : (s.raiseStreamFault).d = s.d := rfl
@[simp] theorem State.raiseStreamFault_n (s : State) : (s.raiseStreamFault).n = s.n := rfl
@[simp] theorem State.raiseStreamFault_w (s : State) : (s.raiseStreamFault).w = s.w := rfl
@[simp] theorem State.raiseStreamFault_e (s : State) : (s.raiseStreamFault).e = s.e := rfl
@[simp] theorem State.raiseStreamFault_remaining (s : State) : (s.raiseStreamFault).remaining = s.remaining := rfl
@[simp] theorem State.raiseStreamFault_output (s : State) : (s.raiseStreamFault).output = s.output := rfl
@[simp] theorem State.raiseStreamFault_fault (s : State) : (s.raiseStreamFault).fault = .streamFault s.cursor := rfl
@[simp] theorem State.raiseStreamFault_runState (s : State) : (s.raiseStreamFault).runState = .faulted := rfl
@[simp] theorem State.raiseStreamFault_emitted (s : State) : (s.raiseStreamFault).emitted = s.emitted := rfl
@[simp] theorem State.raiseStreamFault_inbox (s : State) : (s.raiseStreamFault).inbox = s.inbox := rfl

-- beginInstr

@[simp] theorem State.beginInstr_stream (s : State) : (s.beginInstr).stream = s.stream := rfl
@[simp] theorem State.beginInstr_params (s : State) : (s.beginInstr).params = s.params := rfl
@[simp] theorem State.beginInstr_execWidth (s : State) : (s.beginInstr).execWidth = s.execWidth := rfl
@[simp] theorem State.beginInstr_suffix (s : State) : (s.beginInstr).suffix = .none := rfl
@[simp] theorem State.beginInstr_regSet (s : State) : (s.beginInstr).regSet = .hl := rfl
@[simp] theorem State.beginInstr_cursor (s : State) : (s.beginInstr).cursor = s.cursor := rfl
@[simp] theorem State.beginInstr_startAddress (s : State) : (s.beginInstr).startAddress = s.cursor := rfl
@[simp] theorem State.beginInstr_rawBytes (s : State) : (s.beginInstr).rawBytes = [] := rfl
@[simp] theorem State.beginInstr_phase (s : State) : (s.beginInstr).phase = .noPrefix := rfl
@[simp] theorem State.beginInstr_op (s : State) : (s.beginInstr).op = none := rfl
@[simp] theorem State.beginInstr_page (s : State) : (s.beginInstr).page = none := rfl
@[simp] theorem State.beginInstr_d (s : State) : (s.beginInstr).d = none := rfl
@[simp] theorem State.beginInstr_n (s : State) : (s.beginInstr).n = none := rfl
@[simp] theorem State.beginInstr_w (s : State) : (s.beginInstr).w = none := rfl
@[simp] theorem State.beginInstr_e (s : State) : (s.beginInstr).e = none := rfl
@[simp] theorem State.beginInstr_remaining (s : State) : (s.beginInstr).remaining = s.remaining := rfl
@[simp] theorem State.beginInstr_output (s : State) : (s.beginInstr).output = none := rfl
@[simp] theorem State.beginInstr_fault (s : State) : (s.beginInstr).fault = s.fault := rfl
@[simp] theorem State.beginInstr_runState (s : State) : (s.beginInstr).runState = s.runState := rfl
@[simp] theorem State.beginInstr_emitted (s : State) : (s.beginInstr).emitted = s.emitted := rfl
@[simp] theorem State.beginInstr_inbox (s : State) : (s.beginInstr).inbox = s.inbox := rfl

-- startRun

@[simp] theorem State.startRun_stream (s : State) (x : ExecWidth) (a : Addr) (c : Int) :
    (s.startRun x a c).stream = s.stream := rfl
@[simp] theorem State.startRun_params (s : State) (x : ExecWidth) (a : Addr) (c : Int) :
    (s.startRun x a c).params = s.params := rfl
@[simp] theorem State.startRun_execWidth (s : State) (x : ExecWidth) (a : Addr) (c : Int) :
    (s.startRun x a c).execWidth = x := rfl
@[simp] theorem State.startRun_suffix (s : State) (x : ExecWidth) (a : Addr) (c : Int) :
    (s.startRun x a c).suffix = .none := rfl
@[simp] theorem State.startRun_regSet (s : State) (x : ExecWidth) (a : Addr) (c : Int) :
    (s.startRun x a c).regSet = .hl := rfl
@[simp] theorem State.startRun_cursor (s : State) (x : ExecWidth) (a : Addr) (c : Int) :
    (s.startRun x a c).cursor = a := rfl
@[simp] theorem State.startRun_startAddress (s : State) (x : ExecWidth) (a : Addr) (c : Int) :
    (s.startRun x a c).startAddress = a := rfl
@[simp] theorem State.startRun_rawBytes (s : State) (x : ExecWidth) (a : Addr) (c : Int) :
    (s.startRun x a c).rawBytes = [] := rfl
@[simp] theorem State.startRun_phase (s : State) (x : ExecWidth) (a : Addr) (c : Int) :
    (s.startRun x a c).phase = .noPrefix := rfl
@[simp] theorem State.startRun_op (s : State) (x : ExecWidth) (a : Addr) (c : Int) :
    (s.startRun x a c).op = none := rfl
@[simp] theorem State.startRun_page (s : State) (x : ExecWidth) (a : Addr) (c : Int) :
    (s.startRun x a c).page = none := rfl
@[simp] theorem State.startRun_d (s : State) (x : ExecWidth) (a : Addr) (c : Int) : (s.startRun x a c).d = none := rfl
@[simp] theorem State.startRun_n (s : State) (x : ExecWidth) (a : Addr) (c : Int) : (s.startRun x a c).n = none := rfl
@[simp] theorem State.startRun_w (s : State) (x : ExecWidth) (a : Addr) (c : Int) : (s.startRun x a c).w = none := rfl
@[simp] theorem State.startRun_e (s : State) (x : ExecWidth) (a : Addr) (c : Int) : (s.startRun x a c).e = none := rfl
@[simp] theorem State.startRun_remaining (s : State) (x : ExecWidth) (a : Addr) (c : Int) :
    (s.startRun x a c).remaining = c := rfl
@[simp] theorem State.startRun_output (s : State) (x : ExecWidth) (a : Addr) (c : Int) :
    (s.startRun x a c).output = none := rfl
@[simp] theorem State.startRun_fault (s : State) (x : ExecWidth) (a : Addr) (c : Int) :
    (s.startRun x a c).fault = .none := rfl
@[simp] theorem State.startRun_runState (s : State) (x : ExecWidth) (a : Addr) (c : Int) :
    (s.startRun x a c).runState = if c > 0 then .running else .done := rfl
@[simp] theorem State.startRun_emitted (s : State) (x : ExecWidth) (a : Addr) (c : Int) :
    (s.startRun x a c).emitted = [] := rfl
@[simp] theorem State.startRun_inbox (s : State) (x : ExecWidth) (a : Addr) (c : Int) :
    (s.startRun x a c).inbox = s.inbox := rfl

-- finish

@[simp] theorem State.finish_stream (s : State) (k : Kind) (f : Option Nat) (x : String) :
    (s.finish k f x).stream = s.stream := rfl
@[simp] theorem State.finish_params (s : State) (k : Kind) (f : Option Nat) (x : String) :
    (s.finish k f x).params = s.params := rfl
@[simp] theorem State.finish_execWidth (s : State) (k : Kind) (f : Option Nat) (x : String) :
    (s.finish k f x).execWidth = s.execWidth := rfl
@[simp] theorem State.finish_suffix (s : State) (k : Kind) (f : Option Nat) (x : String) :
    (s.finish k f x).suffix = s.suffix := rfl
@[simp] theorem State.finish_regSet (s : State) (k : Kind) (f : Option Nat) (x : String) :
    (s.finish k f x).regSet = s.regSet := rfl
@[simp] theorem State.finish_cursor (s : State) (k : Kind) (f : Option Nat) (x : String) :
    (s.finish k f x).cursor = s.cursor := rfl
@[simp] theorem State.finish_startAddress (s : State) (k : Kind) (f : Option Nat) (x : String) :
    (s.finish k f x).startAddress = s.startAddress := rfl
@[simp] theorem State.finish_rawBytes (s : State) (k : Kind) (f : Option Nat) (x : String) :
    (s.finish k f x).rawBytes = s.rawBytes := rfl
@[simp] theorem State.finish_phase (s : State) (k : Kind) (f : Option Nat) (x : String) :
    (s.finish k f x).phase = .complete := rfl
@[simp] theorem State.finish_op (s : State) (k : Kind) (f : Option Nat) (x : String) :
    (s.finish k f x).op = s.op := rfl
@[simp] theorem State.finish_page (s : State) (k : Kind) (f : Option Nat) (x : String) :
    (s.finish k f x).page = s.page := rfl
@[simp] theorem State.finish_d (s : State) (k : Kind) (f : Option Nat) (x : String) : (s.finish k f x).d = s.d := rfl
@[simp] theorem State.finish_n (s : State) (k : Kind) (f : Option Nat) (x : String) : (s.finish k f x).n = s.n := rfl
@[simp] theorem State.finish_w (s : State) (k : Kind) (f : Option Nat) (x : String) : (s.finish k f x).w = s.w := rfl
@[simp] theorem State.finish_e (s : State) (k : Kind) (f : Option Nat) (x : String) : (s.finish k f x).e = s.e := rfl
@[simp] theorem State.finish_remaining (s : State) (k : Kind) (f : Option Nat) (x : String) :
    (s.finish k f x).remaining = s.remaining - s.byteLength := rfl
@[simp] theorem State.finish_output (s : State) (k : Kind) (f : Option Nat) (x : String) :
    (s.finish k f x).output = some (s.record k f x) := rfl
@[simp] theorem State.finish_fault (s : State) (k : Kind) (f : Option Nat) (x : String) :
    (s.finish k f x).fault = s.fault := rfl
@[simp] theorem State.finish_runState (s : State) (k : Kind) (f : Option Nat) (x : String) :
    (s.finish k f x).runState = if s.remaining - s.byteLength > 0 then .running else .done := rfl
@[simp] theorem State.finish_emitted (s : State) (k : Kind) (f : Option Nat) (x : String) :
    (s.finish k f x).emitted = s.emitted ++ [s.record k f x] := rfl
@[simp] theorem State.finish_inbox (s : State) (k : Kind) (f : Option Nat) (x : String) :
    (s.finish k f x).inbox = s.inbox := rfl

-- byteLength

@[simp] theorem State.accept_byteLength (s : State) (b : Byte) : (s.accept b).byteLength = s.byteLength + 1 := by
  simp [State.byteLength]

@[simp] theorem State.latchN_byteLength (s : State) (b : Byte) : (s.latchN b).byteLength = s.byteLength + 1 := by
  simp [State.byteLength]

@[simp] theorem State.latchD_byteLength (s : State) (b : Byte) : (s.latchD b).byteLength = s.byteLength + 1 := by
  simp [State.byteLength]

@[simp] theorem State.latchE_byteLength (s : State) (b : Byte) : (s.latchE b).byteLength = s.byteLength + 1 := by
  simp [State.byteLength]

@[simp] theorem State.beginInstr_byteLength (s : State) : s.beginInstr.byteLength = 0 := rfl

@[simp] theorem State.finish_byteLength (s : State) (k : Kind) (f : Option Nat) (x : String) :
    (s.finish k f x).byteLength = s.byteLength := rfl

end Sys2Proof.Machine
end

