-- ==== Sys2Proof/Laws/Ops.lean ====
section
/-! SUPPORT. One lemma per shared operation that says everything it can do when it answers a next state, and that rows do
nothing but run their forms. -/

namespace Sys2Proof.Machine

/-- What a meaning can answer with a next state: the state itself with no run active, the stream fault, or what follows the byte
read. -/
theorem withRead_next {s t : State} {k : Byte → Host.Outcome State Fault Refusal} (h : withRead s k = .next t) :
    (s.runState ≠ .running ∧ t = s) ∨
    s.runState = .running ∧ ((s.read = none ∧ t = s.raiseStreamFault) ∨ ∃ b, s.read = some b ∧ k b = .next t) := by
  unfold withRead at h
  split at h
  case h_4 hrun =>
    refine .inr ⟨hrun, ?_⟩
    split at h
    · rename_i hr
      cases h
      exact .inl ⟨hr, rfl⟩
    · rename_i b hr
      exact .inr ⟨b, hr, h⟩
  all_goals
    rename_i hrun
    cases h
    exact .inl ⟨by simp [hrun], rfl⟩

/-- With no run active, a meaning leaves the state as it is. -/
theorem withRead_inactive {s : State} (k : Byte → Host.Outcome State Fault Refusal) (hrun : s.runState ≠ .running) :
    withRead s k = .next s := by
  unfold withRead
  split <;> simp_all

/-- In an active run with a readable byte, a meaning is what follows the byte. -/
theorem withRead_some {s : State} {b : Byte} (k : Byte → Host.Outcome State Fault Refusal) (hrun : s.runState = .running)
    (hr : s.read = some b) : withRead s k = k b := by
  simp [withRead, hrun, hr]

/-- In an active run with an unreadable byte, every meaning is the stream fault (60_exceptions.md R602). -/
theorem withRead_none {s : State} (k : Byte → Host.Outcome State Fault Refusal) (hrun : s.runState = .running)
    (hr : s.read = none) : withRead s k = .next s.raiseStreamFault := by
  simp [withRead, hrun, hr]

/-- A readable address reads as the stream. -/
theorem read_some_iff {s : State} {b : Byte} :
    s.read = some b ↔ readable s.params s.cursor = true ∧ s.streamByte s.cursor = b := by
  unfold State.read
  split <;> simp_all

/-- What completing a row leaves, if it completes: the record of an unrepresented row with empty text, or the record of a
full row with the text of its operands. -/
theorem complete_next {f : Form} {s t : State} (h : complete f s = .next t) :
    (f.body = none ∧ t = s.finish .unrepresented (some f.rule) "") ∨
    ∃ kw operands ts, f.body = some (kw, operands) ∧ renderOperands s operands = some ts ∧
      t = s.finish .full (some f.rule) (textOf kw s.suffix ts) := by
  unfold complete at h
  split at h
  · rename_i hb
    cases h
    exact .inl ⟨hb, rfl⟩
  · rename_i kw operands hb
    split at h
    · cases h
    · rename_i ts hts
      cases h
      exact .inr ⟨kw, operands, ts, hb, hts, rfl⟩

/-- The state an opcode byte leaves before operands are fetched (30_encoding.md R111). -/
def State.opcodeTaken (s : State) (p : Page) (b : Byte) : State :=
  { s.accept b with op := some b, page := some p, phase := .operands }

/-- The opcode byte of a row completes it if it has no operand, else leaves the opcode latched. -/
theorem opcodeRead_next {f : Form} {s t : State} {b : Byte} (h : opcodeRead f s b = .next t) :
    (f.recipe = .none ∧ complete f (s.opcodeTaken f.page b) = .next t) ∨
    (f.recipe ≠ .none ∧ t = s.opcodeTaken f.page b) := by
  unfold opcodeRead at h
  split at h
  case h_1 hr => exact .inl ⟨hr, h⟩
  all_goals
    rename_i hr
    cases h
    exact .inr ⟨by simp [hr], rfl⟩

/-- One read of a row: nothing with no run active, the stream fault, its opcode byte, or its next operand byte. -/
theorem runForm_next {f : Form} {s t : State} (h : runForm f s = .next t) :
    (s.runState ≠ .running ∧ t = s) ∨
    s.runState = .running ∧ ((s.read = none ∧ t = s.raiseStreamFault) ∨
      ∃ b, s.read = some b ∧
        ((s.phase ≠ .operands ∧ opcodeRead f s b = .next t) ∨ (s.phase = .operands ∧ operandRead f s b = .next t))) := by
  refine (withRead_next h).imp_right fun ⟨hrun, hk⟩ => ⟨hrun, hk.imp_right fun ⟨b, hr, hk⟩ => ⟨b, hr, ?_⟩⟩
  split at hk
  · rename_i hp
    exact .inr ⟨hp, hk⟩
  · rename_i hp
    exact .inl ⟨hp, hk⟩

/-- Every row that has a form does nothing but run it. -/
theorem exec_eq_runForm {i : Instr} {f : Form} {s : State} (h : formOf s.params.cbY7Mnemonic i = some f) :
    exec i s = runForm f s := by
  cases i
  case baseIxIgnored op => simp only [formOf] at h; simp [exec, execBaseIxIgnored, runIgnored, h]
  case baseIyIgnored op => simp only [formOf] at h; simp [exec, execBaseIyIgnored, runIgnored, h]
  case modeSelect => cases h
  case indexPrefix => cases h
  case cbPrefix => cases h
  case edPrefix => cases h
  case prefixOnly => cases h
  all_goals (injection h with h; subst h; rfl)

/-- The rows with no form: the prefix rows, and a row of R301 that no byte selects. -/
theorem formOf_none {i : Instr} {k : CbY7Mnemonic} (h : formOf k i = none) :
    (∃ x, i = .modeSelect x) ∨ (∃ x, i = .indexPrefix x) ∨ i = .cbPrefix ∨ i = .edPrefix ∨ i = .prefixOnly ∨
    (∃ op, i = .baseIxIgnored op ∨ i = .baseIyIgnored op) := by
  cases i
  case baseIxIgnored op => simp
  case baseIyIgnored op => simp
  case modeSelect => simp
  case indexPrefix => simp
  case cbPrefix => simp
  case edPrefix => simp
  case prefixOnly => simp
  all_goals cases h

/-- A request of the host that is served: a start, a change of the parameters or of a stream byte, outside a run. -/
theorem serveHost_next {ev : HostEvent} {s t : State} (h : serveHost ev s = .next t) :
    s.runState ≠ .running ∧
    ((∃ start count flag width, ev = .start start count flag ∧ start < 2 ^ 24 ∧ 0 ≤ count ∧ widthOfFlag flag = some width ∧
        t = s.startRun width (BitVec.ofNat 24 start) count) ∨
     (∃ p, ev = .configure p ∧ t = { s with params := p }) ∨
     (∃ a b, ev = .setStream a b ∧ t = { s with stream := memWrite s.stream a.toNat b })) := by
  cases ev with
  | start start count flag =>
    simp only [serveHost] at h
    split at h
    · cases h
    · rename_i hrun
      split at h
      · rename_i hin
        split at h
        · rename_i width hw
          cases h
          exact ⟨hrun, .inl ⟨start, count, flag, width, rfl, hin.1, hin.2, hw, rfl⟩⟩
        · cases h
      · cases h
  | configure p =>
    simp only [serveHost] at h
    split at h
    · cases h
    · rename_i hrun
      cases h
      exact ⟨hrun, .inr (.inl ⟨p, rfl, rfl⟩)⟩
  | setStream a b =>
    simp only [serveHost] at h
    split at h
    · cases h
    · rename_i hrun
      cases h
      exact ⟨hrun, .inr (.inr ⟨a, b, rfl, rfl⟩)⟩

/-- A host's read answers only outside a run, and before the first start only of `runState`. -/
theorem hostRead_value {s : State} {r : HostReg} {v : HostValue} (h : hostRead s r = .value v) :
    s.runState ≠ .running ∧ (s.runState = .idle → r = .runState) := by
  unfold hostRead at h
  split at h
  · cases h
  · rename_i hs
    cases r <;> simp_all
  all_goals
    rename_i hs
    simp [hs]

/-- What a step can do: serve the host's oldest request, make one read of a row, fault on an unreadable byte that would
select a row, or nothing when no run is active. -/
theorem step_next {s t : State} (h : step s = .next t) :
    (∃ ev rest, s.inbox = ev :: rest ∧ serveHost ev { s with inbox := rest } = .next t) ∨
    (s.inbox = [] ∧ s.runState = .running ∧ s.settled.nextInstr = .ok none ∧ t = s.settled.raiseStreamFault) ∨
    (∃ i, s.inbox = [] ∧ s.runState = .running ∧ s.settled.nextInstr = .ok (some i) ∧ exec i s.settled = .next t) ∨
    (s.inbox = [] ∧ s.runState ≠ .running ∧ t = s) := by
  unfold step at h
  split at h
  · rename_i ev rest hin
    exact .inl ⟨ev, rest, hin, h⟩
  · rename_i hin
    split at h
    · rename_i hrun
      unfold runStep at h
      split at h
      · cases h
      · rename_i hi
        cases h
        exact .inr (.inl ⟨hin, hrun, hi, rfl⟩)
      · rename_i i hi
        exact .inr (.inr (.inl ⟨i, hin, hrun, hi, h⟩))
    · rename_i hrun
      cases h
      exact .inr (.inr (.inr ⟨hin, hrun, rfl⟩))

end Sys2Proof.Machine
end

