-- ==== Sys2Proof/Laws/Fetch.lean ====
section
/-! SUPPORT. What the fetch primitives compute, in the terms of the statements (20_memory.md R74 to R76, 30_encoding.md R119),
and what an operand byte does. -/

namespace Sys2Proof.Machine

/-- `sext_8` is the two's-complement value (00_scope.md R11). -/
theorem sext8_eq_toInt (b : Byte) : sext8 b = b.toInt := by
  unfold sext8
  rw [BitVec.toInt_eq_toNat_cond]
  have := b.isLt
  split <;> split <;> omega

/-- A relative target counts from the cursor past the displacement, mod 2^24 (R75). -/
theorem relativeTarget_eq (a : Addr) (b : Byte) : relativeTarget a b = a + b.signExtend 24 := by
  rw [relativeTarget, sext8_eq_toInt]
  rfl

/-- `word24` is the little-endian word (R76). -/
theorem word24_eq_leWord (lo mid hi : Byte) : word24 lo mid hi = Claims.leWord lo mid hi := by
  simp only [word24, Claims.leWord]
  congr 1
  omega

/-- The segment byte is bits 23:16 (R76). -/
theorem segmentByte_eq (a : Addr) : segmentByte a = a.extractLsb' 16 8 := by
  apply BitVec.eq_of_toNat_eq
  have := a.isLt
  simp [segmentByte, BitVec.extractLsb'_toNat, Nat.shiftRight_eq_div_pow]

/-- `WordIsLong()` is the rule's condition (R119). -/
theorem wordIsLong_iff (s : State) : s.wordIsLong = true ↔ Claims.LongWord s := by
  unfold State.wordIsLong Claims.LongWord
  cases s.params.widthPolicy <;> cases s.suffix <;> cases s.execWidth <;> simp

/-- The status flags as the prefix count of the statements (10_state.md R37). -/
theorem opcodeEnd_eq (s : State) :
    s.opcodeEnd = s.prefixCount + (if s.page = some .ed then 1 else 0) + 1 := by
  unfold State.opcodeEnd State.prefixCount
  cases s.msSeen <;> cases s.idxSeen <;> simp

/-- What an operand byte does, if it leaves a next state: it is latched, and the row completes; or it is one of the word's or
the displacement of `d n`, and more are to come (R120). -/
theorem operandRead_next {f : Form} {s t : State} {b : Byte} (h : operandRead f s b = .next t) :
    (f.recipe = .none ∧ complete f (s.accept b) = .next t) ∨
    (f.recipe = .n ∧ complete f (s.latchN b) = .next t) ∨
    (f.recipe = .d ∧ complete f (s.latchD b) = .next t) ∨
    (f.recipe = .e ∧ complete f (s.latchE b) = .next t) ∨
    (f.recipe = .dn ∧ s.operandCount = 0 ∧ t = s.latchD b) ∨
    (f.recipe = .dn ∧ s.operandCount ≠ 0 ∧ complete f (s.latchN b) = .next t) ∨
    (f.recipe = .w ∧ (s.operandCount = 0 ∨ s.operandCount = 1 ∧ s.wordIsLong = true) ∧ t = s.accept b) ∨
    (f.recipe = .w ∧ s.operandCount ≠ 0 ∧ ∃ w, complete f { s.accept b with w := some w } = .next t) := by
  unfold operandRead at h
  split at h
  case h_1 hr => exact .inl ⟨hr, h⟩
  case h_2 hr => exact .inr (.inl ⟨hr, h⟩)
  case h_3 hr => exact .inr (.inr (.inl ⟨hr, h⟩))
  case h_4 hr => exact .inr (.inr (.inr (.inl ⟨hr, h⟩)))
  case h_5 hr =>
    split at h
    · rename_i h0
      cases h
      exact .inr (.inr (.inr (.inr (.inl ⟨hr, h0, rfl⟩))))
    · rename_i h0
      exact .inr (.inr (.inr (.inr (.inr (.inl ⟨hr, h0, h⟩)))))
  case h_6 hr =>
    simp only at h
    split at h
    · rename_i h0
      cases h
      exact .inr (.inr (.inr (.inr (.inr (.inr (.inl ⟨hr, .inl h0, rfl⟩))))))
    · rename_i h0
      split at h
      · rename_i h1
        split at h
        · rename_i hl
          cases h
          exact .inr (.inr (.inr (.inr (.inr (.inr (.inl ⟨hr, .inr ⟨h1, hl⟩, rfl⟩))))))
        · exact .inr (.inr (.inr (.inr (.inr (.inr (.inr ⟨hr, h0, _, h⟩))))))
      · exact .inr (.inr (.inr (.inr (.inr (.inr (.inr ⟨hr, h0, _, h⟩))))))

end Sys2Proof.Machine
end

