-- ==== Sys2Proof/Laws/Memory.lean ====
section
/-! SUPPORT. The stream as data: a read after a write, and the canonical form. -/

namespace Sys2Proof.Machine

/-- A read of the address just written gives the byte written, in a canonical stream. -/
theorem memRead_memWrite_same (m : Memory) (lo a : Nat) (v : Byte) (h : wfFrom lo m = true) :
    memRead (memWrite m a v) a = v := by
  induction m generalizing lo with
  | nil => by_cases hv : v = unlistedByte <;> simp [memWrite, memRead, hv]
  | cons c rest ih =>
    obtain ⟨k, x⟩ := c
    simp only [wfFrom, Bool.and_eq_true, decide_eq_true_eq] at h
    have below : ∀ (r : Memory) (lo : Nat), wfFrom lo r = true → a < lo → memRead r a = unlistedByte := by
      intro r
      induction r with
      | nil => intros; rfl
      | cons c r ih =>
        intro lo hr hlt
        simp only [wfFrom, Bool.and_eq_true, decide_eq_true_eq] at hr
        have : c.1 ≠ a := by omega
        simp only [memRead, this, if_false]
        exact ih _ hr.2 (by omega)
    unfold memWrite
    split
    · rename_i hlt
      split
      · rename_i hv
        have : k ≠ a := by omega
        simp only [memRead, this, if_false]
        rw [hv]; exact below rest _ h.2 (by omega)
      · simp [memRead]
    · split
      · rename_i heq
        split
        · rename_i hv
          subst heq
          rw [hv]; exact below rest _ h.2 (by omega)
        · simp [memRead]
      · rename_i hne
        have : k ≠ a := fun e => hne e.symm
        simp only [memRead, this, if_false]
        exact ih _ h.2

/-- A write leaves every other address alone. -/
theorem memRead_memWrite_other (m : Memory) (a c : Nat) (v : Byte) (hc : c ≠ a) (lo : Nat) (h : wfFrom lo m = true) :
    memRead (memWrite m a v) c = memRead m c := by
  induction m generalizing lo with
  | nil =>
    have : a ≠ c := fun e => hc e.symm
    by_cases hv : v = unlistedByte <;> simp [memWrite, memRead, hv, this]
  | cons p rest ih =>
    obtain ⟨k, x⟩ := p
    simp only [wfFrom, Bool.and_eq_true] at h
    have hac : a ≠ c := fun e => hc e.symm
    unfold memWrite
    split
    · split <;> simp [memRead, hac]
    · split
      · rename_i heq
        subst heq
        split <;> simp [memRead, hac]
      · by_cases hk : k = c <;> simp [memRead, hk, ih _ h.2]

/-- A write keeps the canonical form from any address at or below it. -/
theorem memWrite_wfFrom (m : Memory) (lo a : Nat) (v : Byte) (h : wfFrom lo m = true) (hlo : lo ≤ a) (ha : a < 2 ^ 24) :
    wfFrom lo (memWrite m a v) = true := by
  induction m generalizing lo with
  | nil =>
    by_cases hv : v = unlistedByte <;> simp [memWrite, wfFrom, hv, hlo]
    omega
  | cons p rest ih =>
    obtain ⟨k, x⟩ := p
    have hw := h
    simp only [wfFrom, Bool.and_eq_true, decide_eq_true_eq] at h
    obtain ⟨⟨⟨h1, h2⟩, h3⟩, h4⟩ := h
    have mono : ∀ (r : Memory) (i j : Nat), wfFrom j r = true → i ≤ j → wfFrom i r = true := by
      intro r i j hr hij
      cases r with
      | nil => rfl
      | cons c r =>
        simp only [wfFrom, Bool.and_eq_true, decide_eq_true_eq] at hr ⊢
        exact ⟨⟨⟨by omega, hr.1.1.2⟩, hr.1.2⟩, hr.2⟩
    unfold memWrite
    split
    · rename_i hlt
      split
      · exact hw
      · rename_i hv
        simp only [wfFrom, Bool.and_eq_true, decide_eq_true_eq]
        exact ⟨⟨⟨hlo, ha⟩, by simpa using hv⟩, ⟨⟨by omega, h2⟩, h3⟩, h4⟩
    · rename_i hlt
      split
      · rename_i heq
        subst heq
        split
        · exact mono _ _ _ h4 (by omega)
        · rename_i hv
          simp only [wfFrom, Bool.and_eq_true, decide_eq_true_eq]
          exact ⟨⟨⟨hlo, ha⟩, by simpa using hv⟩, h4⟩
      · rename_i hne
        simp only [wfFrom, Bool.and_eq_true, decide_eq_true_eq]
        exact ⟨⟨⟨h1, h2⟩, h3⟩, ih _ h4 (by omega)⟩

/-- Every write of a stream byte keeps the canonical form. -/
theorem memWrite_wf (m : Memory) (a : Addr) (v : Byte) (h : m.wf = true) : (memWrite m a.toNat v).wf = true :=
  memWrite_wfFrom m 0 a.toNat v h (Nat.zero_le _) a.isLt

/-- Laying bytes out keeps the canonical form. -/
theorem placeBytes_wf (m : Memory) (a : Addr) (bs : List Byte) (h : m.wf = true) : (placeBytes m a bs).wf = true := by
  induction bs generalizing m a with
  | nil => exact h
  | cons b bs ih => exact ih _ _ (memWrite_wf m a b h)

/-- The power-on stream is canonical. -/
theorem reset_stream_wf : State.reset.stream.wf = true := rfl

end Sys2Proof.Machine
end

