-- ==== Sys2Proof/Laws/PerInstr.lean ====
section
/-! SUPPORT. Statements about all rows, row by row. EncodingLength: how many bytes a row takes up to its opcode byte, with no
mode-select and without operands (the fixed part of 30_encoding.md R122; an indexed CB has its displacement before the
opcode). -/

namespace Sys2Proof.Laws.EncodingLength

/-- The bytes of a row up to its opcode byte. -/
def fixedLength : Home → Nat
  | .prefixOnly => 0
  | .modeSelect | .indexPrefix | .cbPrefix | .edPrefix | .base => 1
  | .baseIndexed _ | .cb | .ed => 2
  | .indexCb _ => 4

/-- The encoding has the length of its table. -/
def Statement (i : Instr) : Prop := ∀ d : Byte, (encodeWith d i).length = fixedLength (home i)

theorem modeSelect (sfx : Suffix) : Statement (.modeSelect sfx) := fun _ => rfl
theorem indexPrefix (x : IndexReg) : Statement (.indexPrefix x) := fun _ => by cases x <;> rfl
theorem cbPrefix : Statement .cbPrefix := fun _ => rfl
theorem edPrefix : Statement .edPrefix := fun _ => rfl
theorem prefixOnly : Statement .prefixOnly := fun _ => rfl
theorem nop : Statement .nop := fun _ => rfl
theorem ldRrNn (rr : RegPair) : Statement (.ldRrNn rr) := fun _ => rfl
theorem ldIndBcA : Statement .ldIndBcA := fun _ => rfl
theorem incRr (rr : RegPair) : Statement (.incRr rr) := fun _ => rfl
theorem incR (r : Reg8) : Statement (.incR r) := fun _ => rfl
theorem decR (r : Reg8) : Statement (.decR r) := fun _ => rfl
theorem ldRN (r : Reg8) : Statement (.ldRN r) := fun _ => rfl
theorem rlca : Statement .rlca := fun _ => rfl
theorem exAfAf : Statement .exAfAf := fun _ => rfl
theorem addHlRr (rr : RegPair) : Statement (.addHlRr rr) := fun _ => rfl
theorem ldAIndBc : Statement .ldAIndBc := fun _ => rfl
theorem decRr (rr : RegPair) : Statement (.decRr rr) := fun _ => rfl
theorem rrca : Statement .rrca := fun _ => rfl
theorem djnz : Statement .djnz := fun _ => rfl
theorem ldIndDeA : Statement .ldIndDeA := fun _ => rfl
theorem rla : Statement .rla := fun _ => rfl
theorem jr : Statement .jr := fun _ => rfl
theorem ldAIndDe : Statement .ldAIndDe := fun _ => rfl
theorem rra : Statement .rra := fun _ => rfl
theorem jrCc (cc : Cond) : Statement (.jrCc cc) := fun _ => rfl
theorem ldMemHl : Statement .ldMemHl := fun _ => rfl
theorem daa : Statement .daa := fun _ => rfl
theorem ldHlMem : Statement .ldHlMem := fun _ => rfl
theorem cpl : Statement .cpl := fun _ => rfl
theorem ldMemA : Statement .ldMemA := fun _ => rfl
theorem scf : Statement .scf := fun _ => rfl
theorem ldAMem : Statement .ldAMem := fun _ => rfl
theorem ccf : Statement .ccf := fun _ => rfl
theorem ldRR (dst : Reg8) (src : Reg8) : Statement (.ldRR dst src) := fun _ => rfl
theorem halt : Statement .halt := fun _ => rfl
theorem addAR (r : Reg8) : Statement (.addAR r) := fun _ => rfl
theorem adcAR (r : Reg8) : Statement (.adcAR r) := fun _ => rfl
theorem subAR (r : Reg8) : Statement (.subAR r) := fun _ => rfl
theorem sbcAR (r : Reg8) : Statement (.sbcAR r) := fun _ => rfl
theorem andAR (r : Reg8) : Statement (.andAR r) := fun _ => rfl
theorem xorAR (r : Reg8) : Statement (.xorAR r) := fun _ => rfl
theorem orAR (r : Reg8) : Statement (.orAR r) := fun _ => rfl
theorem cpAR (r : Reg8) : Statement (.cpAR r) := fun _ => rfl
theorem retCc (cc : Cond) : Statement (.retCc cc) := fun _ => rfl
theorem popQq (qq : StackPair) : Statement (.popQq qq) := fun _ => rfl
theorem jpCcNn (cc : Cond) : Statement (.jpCcNn cc) := fun _ => rfl
theorem jpNn : Statement .jpNn := fun _ => rfl
theorem callCcNn (cc : Cond) : Statement (.callCcNn cc) := fun _ => rfl
theorem pushQq (qq : StackPair) : Statement (.pushQq qq) := fun _ => rfl
theorem addAN : Statement .addAN := fun _ => rfl
theorem rst (t : Fin 8) : Statement (.rst t) := fun _ => rfl
theorem ret : Statement .ret := fun _ => rfl
theorem callNn : Statement .callNn := fun _ => rfl
theorem adcAN : Statement .adcAN := fun _ => rfl
theorem outNA : Statement .outNA := fun _ => rfl
theorem subAN : Statement .subAN := fun _ => rfl
theorem exx : Statement .exx := fun _ => rfl
theorem inAN : Statement .inAN := fun _ => rfl
theorem sbcAN : Statement .sbcAN := fun _ => rfl
theorem exIndSpHl : Statement .exIndSpHl := fun _ => rfl
theorem andAN : Statement .andAN := fun _ => rfl
theorem jpIndHl : Statement .jpIndHl := fun _ => rfl
theorem exDeHl : Statement .exDeHl := fun _ => rfl
theorem xorAN : Statement .xorAN := fun _ => rfl
theorem di : Statement .di := fun _ => rfl
theorem orAN : Statement .orAN := fun _ => rfl
theorem ldSpHl : Statement .ldSpHl := fun _ => rfl
theorem ei : Statement .ei := fun _ => rfl
theorem cpAN : Statement .cpAN := fun _ => rfl
theorem baseIxIgnored (op : Byte) : Statement (.baseIxIgnored op) := fun _ => rfl
theorem ldRrIxd (rr : RegPair) : Statement (.ldRrIxd rr) := fun _ => rfl
theorem addIxRr (rr : RegPair) : Statement (.addIxRr rr) := fun _ => rfl
theorem ldIxdRr (rr : RegPair) : Statement (.ldIxdRr rr) := fun _ => rfl
theorem ldIxNn : Statement .ldIxNn := fun _ => rfl
theorem ldMemIx : Statement .ldMemIx := fun _ => rfl
theorem incIx : Statement .incIx := fun _ => rfl
theorem incIxHalf (h : Half) : Statement (.incIxHalf h) := fun _ => rfl
theorem decIxHalf (h : Half) : Statement (.decIxHalf h) := fun _ => rfl
theorem ldIxHalfN (h : Half) : Statement (.ldIxHalfN h) := fun _ => rfl
theorem ldIxMem : Statement .ldIxMem := fun _ => rfl
theorem decIx : Statement .decIx := fun _ => rfl
theorem ldOtherIxd : Statement .ldOtherIxd := fun _ => rfl
theorem incIxd : Statement .incIxd := fun _ => rfl
theorem decIxd : Statement .decIxd := fun _ => rfl
theorem ldIxdN : Statement .ldIxdN := fun _ => rfl
theorem ldIxIxd : Statement .ldIxIxd := fun _ => rfl
theorem ldIxdOther : Statement .ldIxdOther := fun _ => rfl
theorem ldIxdIx : Statement .ldIxdIx := fun _ => rfl
theorem ldIxHalves (dst : Reg8) (src : Reg8) : Statement (.ldIxHalves dst src) := fun _ => rfl
theorem ldRIxd (r : Reg8) : Statement (.ldRIxd r) := fun _ => rfl
theorem ldIxdR (r : Reg8) : Statement (.ldIxdR r) := fun _ => rfl
theorem aluAIxHalf (f : Alu) (h : Half) : Statement (.aluAIxHalf f h) := fun _ => rfl
theorem aluAIxd (f : Alu) : Statement (.aluAIxd f) := fun _ => rfl
theorem popIx : Statement .popIx := fun _ => rfl
theorem exIndSpIx : Statement .exIndSpIx := fun _ => rfl
theorem pushIx : Statement .pushIx := fun _ => rfl
theorem jpIndIx : Statement .jpIndIx := fun _ => rfl
theorem ldSpIx : Statement .ldSpIx := fun _ => rfl
theorem baseIyIgnored (op : Byte) : Statement (.baseIyIgnored op) := fun _ => rfl
theorem ldRrIyd (rr : RegPair) : Statement (.ldRrIyd rr) := fun _ => rfl
theorem addIyRr (rr : RegPair) : Statement (.addIyRr rr) := fun _ => rfl
theorem ldIydRr (rr : RegPair) : Statement (.ldIydRr rr) := fun _ => rfl
theorem ldIyNn : Statement .ldIyNn := fun _ => rfl
theorem ldMemIy : Statement .ldMemIy := fun _ => rfl
theorem incIy : Statement .incIy := fun _ => rfl
theorem incIyHalf (h : Half) : Statement (.incIyHalf h) := fun _ => rfl
theorem decIyHalf (h : Half) : Statement (.decIyHalf h) := fun _ => rfl
theorem ldIyHalfN (h : Half) : Statement (.ldIyHalfN h) := fun _ => rfl
theorem ldIyMem : Statement .ldIyMem := fun _ => rfl
theorem decIy : Statement .decIy := fun _ => rfl
theorem ldOtherIyd : Statement .ldOtherIyd := fun _ => rfl
theorem incIyd : Statement .incIyd := fun _ => rfl
theorem decIyd : Statement .decIyd := fun _ => rfl
theorem ldIydN : Statement .ldIydN := fun _ => rfl
theorem ldIyIyd : Statement .ldIyIyd := fun _ => rfl
theorem ldIydOther : Statement .ldIydOther := fun _ => rfl
theorem ldIydIy : Statement .ldIydIy := fun _ => rfl
theorem ldIyHalves (dst : Reg8) (src : Reg8) : Statement (.ldIyHalves dst src) := fun _ => rfl
theorem ldRIyd (r : Reg8) : Statement (.ldRIyd r) := fun _ => rfl
theorem ldIydR (r : Reg8) : Statement (.ldIydR r) := fun _ => rfl
theorem aluAIyHalf (f : Alu) (h : Half) : Statement (.aluAIyHalf f h) := fun _ => rfl
theorem aluAIyd (f : Alu) : Statement (.aluAIyd f) := fun _ => rfl
theorem popIy : Statement .popIy := fun _ => rfl
theorem exIndSpIy : Statement .exIndSpIy := fun _ => rfl
theorem pushIy : Statement .pushIy := fun _ => rfl
theorem jpIndIy : Statement .jpIndIy := fun _ => rfl
theorem ldSpIy : Statement .ldSpIy := fun _ => rfl
theorem rlcR (r : Reg8) : Statement (.rlcR r) := fun _ => rfl
theorem rrcR (r : Reg8) : Statement (.rrcR r) := fun _ => rfl
theorem rlR (r : Reg8) : Statement (.rlR r) := fun _ => rfl
theorem rrR (r : Reg8) : Statement (.rrR r) := fun _ => rfl
theorem slaR (r : Reg8) : Statement (.slaR r) := fun _ => rfl
theorem sraR (r : Reg8) : Statement (.sraR r) := fun _ => rfl
theorem sllR (r : Reg8) : Statement (.sllR r) := fun _ => rfl
theorem srlR (r : Reg8) : Statement (.srlR r) := fun _ => rfl
theorem bitBR (b : Fin 8) (r : Reg8) : Statement (.bitBR b r) := fun _ => rfl
theorem resBR (b : Fin 8) (r : Reg8) : Statement (.resBR b r) := fun _ => rfl
theorem setBR (b : Fin 8) (r : Reg8) : Statement (.setBR b r) := fun _ => rfl
theorem unrepIxCb (op : Byte) : Statement (.unrepIxCb op) := fun _ => rfl
theorem rlcIxd : Statement .rlcIxd := fun _ => rfl
theorem rrcIxd : Statement .rrcIxd := fun _ => rfl
theorem rlIxd : Statement .rlIxd := fun _ => rfl
theorem rrIxd : Statement .rrIxd := fun _ => rfl
theorem slaIxd : Statement .slaIxd := fun _ => rfl
theorem sraIxd : Statement .sraIxd := fun _ => rfl
theorem sllIxd : Statement .sllIxd := fun _ => rfl
theorem srlIxd : Statement .srlIxd := fun _ => rfl
theorem bitBIxd (b : Fin 8) : Statement (.bitBIxd b) := fun _ => rfl
theorem resBIxd (b : Fin 8) : Statement (.resBIxd b) := fun _ => rfl
theorem setBIxd (b : Fin 8) : Statement (.setBIxd b) := fun _ => rfl
theorem unrepIyCb (op : Byte) : Statement (.unrepIyCb op) := fun _ => rfl
theorem rlcIyd : Statement .rlcIyd := fun _ => rfl
theorem rrcIyd : Statement .rrcIyd := fun _ => rfl
theorem rlIyd : Statement .rlIyd := fun _ => rfl
theorem rrIyd : Statement .rrIyd := fun _ => rfl
theorem slaIyd : Statement .slaIyd := fun _ => rfl
theorem sraIyd : Statement .sraIyd := fun _ => rfl
theorem sllIyd : Statement .sllIyd := fun _ => rfl
theorem srlIyd : Statement .srlIyd := fun _ => rfl
theorem bitBIyd (b : Fin 8) : Statement (.bitBIyd b) := fun _ => rfl
theorem resBIyd (b : Fin 8) : Statement (.resBIyd b) := fun _ => rfl
theorem setBIyd (b : Fin 8) : Statement (.setBIyd b) := fun _ => rfl
theorem in0RN (r : Reg8) : Statement (.in0RN r) := fun _ => rfl
theorem out0NR (r : Reg8) : Statement (.out0NR r) := fun _ => rfl
theorem leaRrIxd (rr : IndexPair) : Statement (.leaRrIxd rr) := fun _ => rfl
theorem leaRrIyd (rr : IndexPair) : Statement (.leaRrIyd rr) := fun _ => rfl
theorem tstAR (r : Reg8) : Statement (.tstAR r) := fun _ => rfl
theorem unrepEd (op : Byte) : Statement (.unrepEd op) := fun _ => rfl
theorem ldRrIndHl (rr : IndexPair) : Statement (.ldRrIndHl rr) := fun _ => rfl
theorem ldIndHlRr (rr : IndexPair) : Statement (.ldIndHlRr rr) := fun _ => rfl
theorem ldIyIndHl : Statement .ldIyIndHl := fun _ => rfl
theorem ldIndHlIy : Statement .ldIndHlIy := fun _ => rfl
theorem inRC (r : Reg8) : Statement (.inRC r) := fun _ => rfl
theorem outCR (r : Reg8) : Statement (.outCR r) := fun _ => rfl
theorem sbcHlRr (rr : RegPair) : Statement (.sbcHlRr rr) := fun _ => rfl
theorem ldMemRr (rr : RegPair) : Statement (.ldMemRr rr) := fun _ => rfl
theorem neg : Statement .neg := fun _ => rfl
theorem retn : Statement .retn := fun _ => rfl
theorem im0 : Statement .im0 := fun _ => rfl
theorem ldIA : Statement .ldIA := fun _ => rfl
theorem adcHlRr (rr : RegPair) : Statement (.adcHlRr rr) := fun _ => rfl
theorem ldRrMem (rr : RegPair) : Statement (.ldRrMem rr) := fun _ => rfl
theorem mltRr (rr : RegPair) : Statement (.mltRr rr) := fun _ => rfl
theorem reti : Statement .reti := fun _ => rfl
theorem ldRefreshA : Statement .ldRefreshA := fun _ => rfl
theorem leaIxIyd : Statement .leaIxIyd := fun _ => rfl
theorem leaIyIxd : Statement .leaIyIxd := fun _ => rfl
theorem im1 : Statement .im1 := fun _ => rfl
theorem ldAI : Statement .ldAI := fun _ => rfl
theorem im2 : Statement .im2 := fun _ => rfl
theorem ldARefresh : Statement .ldARefresh := fun _ => rfl
theorem tstAN : Statement .tstAN := fun _ => rfl
theorem peaIxd : Statement .peaIxd := fun _ => rfl
theorem peaIyd : Statement .peaIyd := fun _ => rfl
theorem rrd : Statement .rrd := fun _ => rfl
theorem ldMbA : Statement .ldMbA := fun _ => rfl
theorem ldAMb : Statement .ldAMb := fun _ => rfl
theorem rld : Statement .rld := fun _ => rfl
theorem tstioN : Statement .tstioN := fun _ => rfl
theorem slp : Statement .slp := fun _ => rfl
theorem stmix : Statement .stmix := fun _ => rfl
theorem rsmix : Statement .rsmix := fun _ => rfl
theorem unrepEdBlock (op : Byte) : Statement (.unrepEdBlock op) := fun _ => rfl
theorem inim : Statement .inim := fun _ => rfl
theorem otim : Statement .otim := fun _ => rfl
theorem ini2 : Statement .ini2 := fun _ => rfl
theorem indm : Statement .indm := fun _ => rfl
theorem otdm : Statement .otdm := fun _ => rfl
theorem ind2 : Statement .ind2 := fun _ => rfl
theorem inimr : Statement .inimr := fun _ => rfl
theorem otimr : Statement .otimr := fun _ => rfl
theorem ini2r : Statement .ini2r := fun _ => rfl
theorem indmr : Statement .indmr := fun _ => rfl
theorem otdmr : Statement .otdmr := fun _ => rfl
theorem ind2r : Statement .ind2r := fun _ => rfl
theorem ldi : Statement .ldi := fun _ => rfl
theorem cpi : Statement .cpi := fun _ => rfl
theorem ini : Statement .ini := fun _ => rfl
theorem outi : Statement .outi := fun _ => rfl
theorem outi2 : Statement .outi2 := fun _ => rfl
theorem ldd : Statement .ldd := fun _ => rfl
theorem cpd : Statement .cpd := fun _ => rfl
theorem ind : Statement .ind := fun _ => rfl
theorem outd : Statement .outd := fun _ => rfl
theorem outd2 : Statement .outd2 := fun _ => rfl
theorem ldir : Statement .ldir := fun _ => rfl
theorem cpir : Statement .cpir := fun _ => rfl
theorem inir : Statement .inir := fun _ => rfl
theorem otir : Statement .otir := fun _ => rfl
theorem oti2r : Statement .oti2r := fun _ => rfl
theorem lddr : Statement .lddr := fun _ => rfl
theorem cpdr : Statement .cpdr := fun _ => rfl
theorem indr : Statement .indr := fun _ => rfl
theorem otdr : Statement .otdr := fun _ => rfl
theorem otd2r : Statement .otd2r := fun _ => rfl
theorem inirx : Statement .inirx := fun _ => rfl
theorem otirx : Statement .otirx := fun _ => rfl
theorem ldIHl : Statement .ldIHl := fun _ => rfl
theorem indrx : Statement .indrx := fun _ => rfl
theorem otdrx : Statement .otdrx := fun _ => rfl
theorem ldHlI : Statement .ldHlI := fun _ => rfl

end Sys2Proof.Laws.EncodingLength
end

