-- ==== Sys2Proof/Laws/Rows.lean ====
section
/-! SUPPORT. What each shape of row completes with, once per recipe: a row whose form is known meets the statement of its shape
in Safety.lean. Also the text of a row and its stream fault. -/

namespace Sys2Proof.Machine

open Sys2Proof.Claims

-- Text

/-- A text in front of joined operands stays in front. -/
theorem foldl_comma_append (p : String) (us : List String) (o : String) :
    us.foldl (fun t u => t ++ "," ++ u) (p ++ o) = p ++ us.foldl (fun t u => t ++ "," ++ u) o := by
  induction us generalizing o with
  | nil => rfl
  | cons u us ih => rw [List.foldl_cons, List.foldl_cons, ← ih]; simp [String.append_assoc]

/-- Joining from the right is joining from the left. -/
theorem joinComma_cons (o : String) (ts : List String) :
    joinComma (o :: ts) = ts.foldl (fun t u => t ++ "," ++ u) o := by
  induction ts generalizing o with
  | nil => rfl
  | cons u us ih => rw [joinComma, ih, List.foldl_cons, ← foldl_comma_append]

/-- `textOf` renders as the rule writes it (30_encoding.md R130). -/
theorem textOf_eq_rendered (kw : String) (sfx : Suffix) (ts : List String) : textOf kw sfx ts = rendered kw sfx ts := by
  unfold textOf rendered
  cases ts with
  | nil => cases sfx <;> simp [suffixText]
  | cons o os => rw [joinComma_cons]; cases sfx <;> simp [suffixText]

/-- A row with a text completes with it once its operands have values. -/
theorem complete_full {rule : Nat} {page : Page} {recipe : Recipe} {kw : String} {operands : List Operand} {ts : List String}
    {s : State} (h : renderOperands s operands = some ts) :
    complete (fullForm rule page recipe kw operands) s = .next (s.finish .full (some rule) (rendered kw s.suffix ts)) := by
  simp [complete, fullForm, h, textOf_eq_rendered]

-- Faults

/-- A row that answers an unreadable byte with the stream fault does what `Faults` says. -/
theorem faults_of_exec {i : Instr}
    (h : ∀ s : State, s.runState = .running → s.read = none → exec i s = .next s.raiseStreamFault) : Faults i :=
  fun s hrun hn => ⟨s.raiseStreamFault, h s hrun (by simp [State.read, hn]), rfl, rfl, rfl, rfl, rfl⟩

/-- A row with a form answers an unreadable byte with the stream fault. -/
theorem exec_fault {i : Instr} {f : Form} {s : State} (hf : formOf s.params.cbY7Mnemonic i = some f)
    (hrun : s.runState = .running) (hr : s.read = none) : exec i s = .next s.raiseStreamFault := by
  rw [exec_eq_runForm hf, runForm, withRead_none _ hrun hr]

/-- A row that has a form faults on an unreadable byte. -/
theorem faults_of_form {i : Instr} (h : ∀ k, ∃ f, formOf k i = some f) : Faults i :=
  faults_of_exec fun s hrun hr => exec_fault (h s.params.cbY7Mnemonic).choose_spec hrun hr

/-- So does the CB prefix row. -/
theorem faults_cbPrefix : Faults .cbPrefix :=
  faults_of_exec fun _ hrun hr => withRead_none _ hrun hr

-- Reads of a row

/-- The opcode byte of a row, in a state at its opcode. -/
theorem exec_opcode {i : Instr} {f : Form} {s : State} {page : Page} {b : Byte} {bs : List Byte}
    (hf : formOf s.params.cbY7Mnemonic i = some f) (ha : AtOpcode s page) (hb : Holds s s.cursor (b :: bs)) :
    exec i s = opcodeRead f s b := by
  rw [exec_eq_runForm hf, runForm, withRead_some _ ha.running (read_some_iff.2 ⟨hb.1, hb.2.1⟩), if_neg ha.not_operands]

/-- The opcode byte of a row with operands. -/
theorem exec_opcode_taken {i : Instr} {f : Form} {s : State} {page : Page} {b : Byte} {bs : List Byte}
    (hf : formOf s.params.cbY7Mnemonic i = some f) (hr : f.recipe ≠ .none) (ha : AtOpcode s page)
    (hb : Holds s s.cursor (b :: bs)) : exec i s = .next (s.opcodeTaken f.page b) := by
  rw [exec_opcode hf ha hb]
  unfold opcodeRead
  split <;> simp_all [State.opcodeTaken]

/-- An operand byte of a row. -/
theorem exec_operand {i : Instr} {f : Form} {s : State} {b : Byte} (hf : formOf s.params.cbY7Mnemonic i = some f)
    (hrun : s.runState = .running) (hp : s.phase = .operands)
    (hb : readable s.params s.cursor = true ∧ s.streamByte s.cursor = b) : exec i s = operandRead f s b := by
  rw [exec_eq_runForm hf, runForm, withRead_some _ hrun (read_some_iff.2 hb), if_pos hp]

/-- Where the opcode byte ends, once it is read. -/
theorem opcodeEnd_opcodeTaken {s : State} {page : Page} {b : Byte} (ha : AtOpcode s page) (hp : page = .base ∨ page = .ed) :
    (s.opcodeTaken page b).opcodeEnd = s.rawBytes.length + 1 := by
  have hl : s.rawBytes.length = s.prefixCount + pageBytes page := ha.length_eq
  have hc : (s.opcodeTaken page b).prefixCount = s.prefixCount := rfl
  rw [opcodeEnd_eq, hc, hl]
  rcases hp with rfl | rfl <;> simp [pageBytes, State.opcodeTaken]

-- Completion, by recipe

/-- No operand. -/
theorem completesPlain_of {i : Instr} {page : Page} {rule : Nat} {kw : State → String} {ops : List String}
    (operands : List Operand)
    (hf : ∀ s : State, formOf s.params.cbY7Mnemonic i = some (fullForm rule page .none (kw s) operands))
    (ho : ∀ s, renderOperands s operands = some ops) : CompletesPlain page i rule kw ops := by
  intro s b ha hb
  rw [exec_opcode (hf s) ha hb]
  refine (complete_full (ho _)).trans ?_
  simp only [State.finish, completedBy, recordAfter, State.record, State.accept, State.byteLength, List.length_append]
  rfl

/-- An unrepresented row. -/
theorem completesUnrepresented_of {i : Instr} {page : Page} {rule : Nat}
    (hf : ∀ k, formOf k i = some (unrepresentedForm rule page)) : CompletesUnrepresented page i rule := by
  intro s b ha hb
  rw [exec_opcode (hf _) ha hb]
  simp only [opcodeRead, unrepresentedForm, complete, State.finish, completedBy, recordAfter, State.record, State.accept,
    State.byteLength, List.length_append]
  rfl

/-- Recipe `n`. -/
theorem completesN_of {i : Instr} {page : Page} {rule : Nat} {kw : String} {ops : Byte → List String} (operands : List Operand)
    (hf : ∀ k, formOf k i = some (fullForm rule page .n kw operands))
    (ho : ∀ s v, s.n = some v → renderOperands s operands = some (ops v)) : CompletesN page i rule kw ops := by
  intro s b v ha hb
  refine ⟨_, exec_opcode_taken (hf _) (by simp [fullForm]) ha hb, ?_⟩
  refine (exec_operand (s := s.opcodeTaken page b) (hf _) ha.running rfl ⟨hb.2.2.1, hb.2.2.2.1⟩).trans ?_
  refine (complete_full (ho ((s.opcodeTaken page b).latchN v) v rfl)).trans ?_
  simp only [State.latchN, State.finish, completedBy, recordAfter, State.record, State.accept, State.byteLength,
    State.opcodeTaken, List.length_append]
  simp [add_assoc]

/-- Recipe `d`. -/
theorem completesD_of {i : Instr} {page : Page} {rule : Nat} {kw : String} {ops : Int → List String} (operands : List Operand)
    (hf : ∀ k, formOf k i = some (fullForm rule page .d kw operands))
    (ho : ∀ s v, s.d = some v → renderOperands s operands = some (ops v)) : CompletesD page i rule kw ops := by
  intro s b v ha hb
  refine ⟨_, exec_opcode_taken (hf _) (by simp [fullForm]) ha hb, ?_⟩
  refine (exec_operand (s := s.opcodeTaken page b) (hf _) ha.running rfl ⟨hb.2.2.1, hb.2.2.2.1⟩).trans ?_
  refine (complete_full (ho ((s.opcodeTaken page b).latchD v) v.toInt (by simp [State.latchD, sext8_eq_toInt]))).trans ?_
  simp only [State.latchD, State.finish, completedBy, recordAfter, State.record, State.accept, State.byteLength,
    State.opcodeTaken, List.length_append, sext8_eq_toInt]
  simp [add_assoc]

/-- Recipe `e`. -/
theorem completesE_of {i : Instr} {rule : Nat} {kw : String} {ops : Addr → List String} (operands : List Operand)
    (hf : ∀ k, formOf k i = some (fullForm rule .base .e kw operands))
    (ho : ∀ s v, s.e = some v → renderOperands s operands = some (ops v)) : CompletesE i rule kw ops := by
  intro s b v ha hb
  refine ⟨_, exec_opcode_taken (hf _) (by simp [fullForm]) ha hb, ?_⟩
  refine (exec_operand (s := s.opcodeTaken .base b) (hf _) ha.running rfl ⟨hb.2.2.1, hb.2.2.2.1⟩).trans ?_
  have he : relativeTarget ((s.opcodeTaken .base b).cursor + 1) v = s.cursor + 2 + v.signExtend 24 := by
    simp [relativeTarget_eq, State.opcodeTaken, State.accept, BitVec.add_assoc]
  refine (complete_full (ho ((s.opcodeTaken .base b).latchE v) _ (by rw [State.latchE, he]))).trans ?_
  simp only [State.latchE, State.finish, completedBy, recordAfter, State.record, State.accept, State.byteLength,
    State.opcodeTaken, List.length_append]
  simp [relativeTarget_eq, add_assoc]

/-- Recipe `d n`. -/
theorem completesDN_of {i : Instr} {rule : Nat} {kw : String} {ops : Int → Byte → List String} (operands : List Operand)
    (hf : ∀ k, formOf k i = some (fullForm rule .base .dn kw operands))
    (ho : ∀ s v u, s.d = some v → s.n = some u → renderOperands s operands = some (ops v u)) : CompletesDN i rule kw ops := by
  intro s b v u ha hb
  have hend := opcodeEnd_opcodeTaken (b := b) ha (.inl rfl)
  have h0 : (s.opcodeTaken .base b).operandCount = 0 := by
    rw [State.operandCount, hend]; simp [State.opcodeTaken, State.byteLength, State.accept]
  have h1 : ((s.opcodeTaken .base b).latchD v).operandCount ≠ 0 := by
    have he : ((s.opcodeTaken .base b).latchD v).opcodeEnd = s.rawBytes.length + 1 := hend
    rw [State.operandCount, he]; simp [State.latchD, State.opcodeTaken, State.byteLength, State.accept]
  refine ⟨_, (s.opcodeTaken .base b).latchD v, exec_opcode_taken (hf _) (by simp [fullForm]) ha hb, ?_, ?_⟩
  · refine (exec_operand (s := s.opcodeTaken .base b) (hf _) ha.running rfl ⟨hb.2.2.1, hb.2.2.2.1⟩).trans ?_
    simp [operandRead, fullForm, h0]
  · rw [exec_operand (s := (s.opcodeTaken .base b).latchD v) (hf _) ha.running rfl ⟨hb.2.2.2.2.1, hb.2.2.2.2.2.1⟩, operandRead]
    simp only [fullForm, h1, if_false]
    refine (complete_full (ho (((s.opcodeTaken .base b).latchD v).latchN u) v.toInt u
      (by simp [State.latchN, State.accept, State.latchD, sext8_eq_toInt]) rfl)).trans ?_
    simp only [State.latchD, State.latchN, State.finish, completedBy, recordAfter, State.record, State.accept,
      State.byteLength, State.opcodeTaken, List.length_append, sext8_eq_toInt]
    simp [add_assoc]

/-- Whether a word is long is the same for every state of one instruction. -/
theorem wordIsLong_congr {s t : State} (hp : t.params = s.params) (hw : t.execWidth = s.execWidth) (hs : t.suffix = s.suffix) :
    t.wordIsLong = s.wordIsLong := by
  simp [State.wordIsLong, hp, hw, hs]

/-- The state after the opcode byte and `k` word bytes. -/
abbrev State.wordTaken (s : State) (page : Page) (b : Byte) (bs : List Byte) : State :=
  bs.foldl State.accept (s.opcodeTaken page b)

/-- Accepting word bytes. -/
theorem rawBytes_wordTaken (s : State) (page : Page) (b : Byte) (bs : List Byte) :
    (s.wordTaken page b bs).rawBytes = s.rawBytes ++ b :: bs := by
  induction bs using List.reverseRecOn with
  | nil => rfl
  | append_singleton bs v ih => simp only [State.wordTaken, List.foldl_append, List.foldl_cons, List.foldl_nil] at ih ⊢; simp [State.accept, ih]

/-- The other registers the word needs. -/
theorem wordTaken_frame (s : State) (page : Page) (b : Byte) (bs : List Byte) :
    s.wordTaken page b bs = { s.opcodeTaken page b with
      rawBytes := s.rawBytes ++ b :: bs, cursor := s.cursor + BitVec.ofNat 24 (1 + bs.length) } := by
  induction bs using List.reverseRecOn with
  | nil => rfl
  | append_singleton bs v ih =>
    simp only [State.wordTaken, List.foldl_append, List.foldl_cons, List.foldl_nil] at ih ⊢
    simp [State.accept, ih, BitVec.ofNat_add, BitVec.add_assoc]

/-- How many word bytes have been accepted. -/
theorem operandCount_wordTaken {s : State} {page : Page} {b : Byte} (ha : AtOpcode s page) (hp : page = .base ∨ page = .ed)
    (bs : List Byte) : (s.wordTaken page b bs).operandCount = bs.length := by
  have hend := opcodeEnd_opcodeTaken (b := b) ha hp
  have he : (s.wordTaken page b bs).opcodeEnd = (s.opcodeTaken page b).opcodeEnd := by rw [wordTaken_frame]; rfl
  rw [State.operandCount, he, hend, State.byteLength, rawBytes_wordTaken]
  simp only [List.length_append, List.length_cons]
  omega

/-- The word bytes read back. -/
theorem operandByte_wordTaken {s : State} {page : Page} {b : Byte} (ha : AtOpcode s page) (hp : page = .base ∨ page = .ed)
    (bs : List Byte) (k : Nat) : (s.wordTaken page b bs).operandByte k = bs.getD k 0 := by
  have hend := opcodeEnd_opcodeTaken (b := b) ha hp
  have he : (s.wordTaken page b bs).opcodeEnd = (s.opcodeTaken page b).opcodeEnd := by rw [wordTaken_frame]; rfl
  rw [State.operandByte, he, hend, rawBytes_wordTaken, List.getD_eq_getElem?_getD, List.getD_eq_getElem?_getD,
    List.getElem?_append_right (by omega), show s.rawBytes.length + 1 + k - s.rawBytes.length = k + 1 by omega,
    List.getElem?_cons_succ]

/-- Completing with a word. -/
theorem complete_word {s : State} {page : Page} {rule : Nat} {kw : String} {ops : Addr → List String} {operands : List Operand}
    (ho : ∀ s v, s.w = some v → renderOperands s operands = some (ops v)) (b : Byte) (bs : List Byte) (w : Addr) (n : Nat)
    (hn : n = 1 + bs.length) :
    complete (fullForm rule page .w kw operands) { s.wordTaken page b bs with w := some w } =
      .next (completedBy s n
        (recordAfter s (b :: bs) (some b) (some page) s.d s.n (some w) s.e .full (some rule)
          (rendered kw s.suffix (ops w)))) := by
  subst hn
  refine (complete_full (ho { s.wordTaken page b bs with w := some w } w rfl)).trans ?_
  rw [wordTaken_frame]
  simp only [State.finish, completedBy, recordAfter, State.record, State.accept, State.byteLength, State.opcodeTaken,
    List.length_append]
  rfl

/-- Recipe `w`. -/
theorem completesW_of {i : Instr} {page : Page} {rule : Nat} {kw : String} {ops : Addr → List String} (operands : List Operand)
    (hp : page = .base ∨ page = .ed) (hf : ∀ k, formOf k i = some (fullForm rule page .w kw operands))
    (ho : ∀ s v, s.w = some v → renderOperands s operands = some (ops v)) : CompletesW page i rule kw ops := by
  intro s b lo mid ha
  have hlong : ∀ bs, (s.wordTaken page b bs).wordIsLong = s.wordIsLong := fun bs => by
    rw [wordTaken_frame]; exact wordIsLong_congr rfl rfl rfl
  have hrun : ∀ bs, (s.wordTaken page b bs).runState = .running := fun bs => by rw [wordTaken_frame]; exact ha.running
  have hphase : ∀ bs, (s.wordTaken page b bs).phase = .operands := fun bs => by rw [wordTaken_frame]; rfl
  have hfirst : ∀ {bs}, Holds s s.cursor (b :: lo :: bs) →
      exec i s = .next (s.wordTaken page b []) ∧ exec i (s.wordTaken page b []) = .next (s.wordTaken page b [lo]) := by
    intro bs hb
    refine ⟨exec_opcode_taken (hf _) (by simp [fullForm]) ha hb, ?_⟩
    refine (exec_operand (s := s.wordTaken page b []) (b := lo) (hf _) (hrun []) (hphase []) ⟨hb.2.2.1, hb.2.2.2.1⟩).trans ?_
    simp only [operandRead, fullForm, operandCount_wordTaken ha hp]
    rfl
  constructor
  · intro hL hi hb
    obtain ⟨h1, h2⟩ := hfirst hb
    refine ⟨_, _, s.wordTaken page b [lo, mid], h1, h2, ?_, ?_⟩
    · refine (exec_operand (s := s.wordTaken page b [lo]) (b := mid) (hf _) (hrun [lo]) (hphase [lo]) ⟨hb.2.2.2.2.1, hb.2.2.2.2.2.1⟩).trans ?_
      have hl : ((s.wordTaken page b [lo]).accept mid).wordIsLong = true := (hlong [lo, mid]).trans ((wordIsLong_iff s).2 hL)
      simp only [operandRead, fullForm, operandCount_wordTaken ha hp, hl]
      rfl
    · refine (exec_operand (s := s.wordTaken page b [lo, mid]) (b := hi) (hf _) (hrun [lo, mid]) (hphase [lo, mid]) ⟨hb.2.2.2.2.2.2.1, hb.2.2.2.2.2.2.2.1⟩).trans ?_
      have hw : word24 (((s.wordTaken page b [lo, mid]).accept hi).operandByte 0)
          (((s.wordTaken page b [lo, mid]).accept hi).operandByte 1) hi = leWord lo mid hi := by
        rw [word24_eq_leWord]
        congr 1
        · exact operandByte_wordTaken ha hp [lo, mid, hi] 0
        · exact operandByte_wordTaken ha hp [lo, mid, hi] 1
      simp only [operandRead, operandCount_wordTaken ha hp, hw]
      exact complete_word ho b [lo, mid, hi] _ 4 rfl
  · intro hL hb
    obtain ⟨h1, h2⟩ := hfirst hb
    refine ⟨_, _, h1, h2, ?_⟩
    refine (exec_operand (s := s.wordTaken page b [lo]) (b := mid) (hf _) (hrun [lo]) (hphase [lo]) ⟨hb.2.2.2.2.1, hb.2.2.2.2.2.1⟩).trans ?_
    have hl : ((s.wordTaken page b [lo]).accept mid).wordIsLong = false :=
      (hlong [lo, mid]).trans (Bool.eq_false_iff.2 fun h => hL ((wordIsLong_iff s).1 h))
    have hw : word24 (((s.wordTaken page b [lo]).accept mid).operandByte 0) mid
        (segmentByte ((s.wordTaken page b [lo]).accept mid).cursor) = leWord lo mid ((s.cursor + 3).extractLsb' 16 8) := by
      rw [word24_eq_leWord, segmentByte_eq]
      congr 1
      · exact operandByte_wordTaken ha hp [lo, mid] 0
      · show ((s.wordTaken page b [lo, mid]).cursor).extractLsb' 16 8 = _
        rw [wordTaken_frame]
        rfl
    simp only [operandRead, operandCount_wordTaken ha hp, hl, hw]
    exact complete_word ho b [lo, mid] _ 3 rfl

-- Indexed CB

/-- The displacement of an indexed CB is read by the CB prefix row (42_cb_page.md R362). -/
theorem exec_cbPrefix_displacement {s : State} {v : Byte} {bs : List Byte} (ha : AtIndexCb s)
    (hb : Holds s s.cursor (v :: bs)) : exec .cbPrefix s = .next (s.latchD v) := by
  show execCbPrefix s = _
  rw [execCbPrefix, withRead_some _ ha.running (read_some_iff.2 ⟨hb.1, hb.2.1⟩), if_pos ha.phase_eq]

/-- After it the state is at the opcode of the indexed-CB page. -/
theorem atOpcode_latchD {s : State} (v : Byte) (ha : AtIndexCb s) : AtOpcode (s.latchD v) .indexCb := by
  refine ⟨ha.running, ?_, ?_⟩
  · show s.phase ≠ .operands
    simp [ha.phase_eq]
  · have hl : s.rawBytes.length = s.prefixCount + 1 := ha.length_eq
    show (s.rawBytes ++ [v]).length = s.prefixCount + 2
    simp [hl]

/-- An indexed-CB row. -/
theorem completesIndexCb_of {i : Instr} {rule : Nat} {kw : State → String} {ops : Int → List String} (operands : List Operand)
    (hf : ∀ s : State, formOf s.params.cbY7Mnemonic i = some (fullForm rule .indexCb .none (kw s) operands))
    (ho : ∀ s v, s.d = some v → renderOperands s operands = some (ops v)) : CompletesIndexCb i rule kw ops := by
  have key : ∀ (s : State) (b : Byte) (d : Int), AtOpcode s .indexCb → s.d = some d → Holds s s.cursor [b] →
      exec i s = .next (completedBy s 1
        (recordAfter s [b] (some b) (some .indexCb) (some d) s.n s.w s.e .full (some rule)
          (rendered (kw s) s.suffix (ops d)))) := by
    intro s b d ha hd hb
    rw [exec_opcode (hf s) ha hb]
    refine (complete_full (ho (s.opcodeTaken .indexCb b) d hd)).trans ?_
    simp only [State.finish, completedBy, recordAfter, State.record, State.opcodeTaken, State.accept, State.byteLength,
      List.length_append, hd]
    rfl
  refine ⟨fun s v b ha hb => ⟨_, exec_cbPrefix_displacement ha hb, ?_⟩, key⟩
  have hkw : kw (s.latchD v) = kw s := by
    have h := (hf (s.latchD v)).symm.trans (hf s)
    simpa [fullForm] using h
  refine (key (s.latchD v) b v.toInt (atOpcode_latchD v ha) (by simp [State.latchD, sext8_eq_toInt]) hb.2.2).trans ?_
  rw [hkw]
  simp only [State.latchD, completedBy, recordAfter, State.accept, List.length_append]
  simp [add_assoc]

/-- An unrepresented row of the indexed-CB page. -/
theorem completesUnrepresentedIndexCb_of {i : Instr} {rule : Nat}
    (hf : ∀ k, formOf k i = some (unrepresentedForm rule .indexCb)) : CompletesUnrepresentedIndexCb i rule := by
  intro s v b ha hb
  refine ⟨_, exec_cbPrefix_displacement ha hb, ?_⟩
  refine (completesUnrepresented_of hf (s.latchD v) b (atOpcode_latchD v ha) hb.2.2).trans ?_
  simp only [State.latchD, completedBy, recordAfter, State.accept, List.length_append, sext8_eq_toInt]
  simp [add_assoc]

end Sys2Proof.Machine
end

