-- ==== Sys2Proof/Tests/Slice0.lean ====
section
/-! SUPPORT. The model's own tests: the well-formedness smoke test, words written out from the spec's encodings, the spec's worked
examples, single steps, and for every statement with hypotheses a state that meets them. -/

namespace Sys2Proof.Tests

open Sys2Proof.Machine Sys2Proof.Claims

-- Helpers

/-- A running block at the start of an instruction, with these bytes at its cursor. -/
def startAt (width : ExecWidth) (a : Addr) (bytes : List Byte) : State :=
  { State.reset with
    stream := placeBytes [] a bytes, execWidth := width, cursor := a, startAddress := a, remaining := 9, runState := .running }

/-- The same in ADL mode at 0x001000. -/
def adl (bytes : List Byte) : State := startAt .adlMode 0x001000 bytes

/-- The state some reads later. -/
def after : Nat → State → State
  | 0, s => s
  | k + 1, s =>
    match step s with
    | .next t => after k t
    | .fault _ => s
    | .refused _ => s

/-- The text and the length of the record that is ready, and the cursor. -/
def shown (s : State) : Option (String × Nat × Addr) := s.output.map fun r => (r.mnemonicText, r.byteLength, s.cursor)

/-- With the byte at `a` unreadable. -/
def unreadableAt (a : Addr) (s : State) : State := { s with params := { s.params with unreadable := [⟨a, a⟩] } }

-- Well-formedness: one ill-formed term for each check, and its well-formed neighbour
theorem test_illFormed_modeSelect :
    Instr.wellFormed (.modeSelect .none) = false ∧ Instr.wellFormed (.modeSelect .lil) = true :=
  by decide
theorem test_illFormed_jrCc : Instr.wellFormed (.jrCc .po) = false ∧ Instr.wellFormed (.jrCc .c) = true := by decide
theorem test_illFormed_ldRR : Instr.wellFormed (.ldRR .b .b) = false ∧ Instr.wellFormed (.ldRR .h .h) = true := by decide
theorem test_illFormed_ldRR_halt :
    Instr.wellFormed (.ldRR .mhl .mhl) = false ∧ Instr.wellFormed (.ldRR .mhl .a) = true :=
  by decide
theorem test_illFormed_baseIxIgnored :
    Instr.wellFormed (.baseIxIgnored 0x21) = false ∧ Instr.wellFormed (.baseIxIgnored 0xEB) = true :=
  by decide
theorem test_illFormed_ldRrIxd :
    Instr.wellFormed (.ldRrIxd .sp) = false ∧ Instr.wellFormed (.ldRrIxd .hl) = true :=
  by decide
theorem test_illFormed_ldIxdRr :
    Instr.wellFormed (.ldIxdRr .sp) = false ∧ Instr.wellFormed (.ldIxdRr .bc) = true :=
  by decide
theorem test_illFormed_ldIxHalves :
    Instr.wellFormed (.ldIxHalves .b .c) = false ∧ Instr.wellFormed (.ldIxHalves .b .h) = true :=
  by decide
theorem test_illFormed_ldIxHalves_mem :
    Instr.wellFormed (.ldIxHalves .h .mhl) = false ∧ Instr.wellFormed (.ldIxHalves .l .l) = true :=
  by decide
theorem test_illFormed_ldIxHalves_dst :
    Instr.wellFormed (.ldIxHalves .mhl .l) = false ∧ Instr.wellFormed (.ldIxHalves .a .l) = true :=
  by decide
theorem test_illFormed_ldRIxd :
    Instr.wellFormed (.ldRIxd .mhl) = false ∧ Instr.wellFormed (.ldRIxd .h) = true :=
  by decide
theorem test_illFormed_ldIxdR :
    Instr.wellFormed (.ldIxdR .mhl) = false ∧ Instr.wellFormed (.ldIxdR .l) = true :=
  by decide
theorem test_illFormed_baseIyIgnored :
    Instr.wellFormed (.baseIyIgnored 0xDD) = false ∧ Instr.wellFormed (.baseIyIgnored 0x00) = true :=
  by decide
theorem test_illFormed_ldRrIyd :
    Instr.wellFormed (.ldRrIyd .sp) = false ∧ Instr.wellFormed (.ldRrIyd .hl) = true :=
  by decide
theorem test_illFormed_ldIydRr :
    Instr.wellFormed (.ldIydRr .sp) = false ∧ Instr.wellFormed (.ldIydRr .bc) = true :=
  by decide
theorem test_illFormed_ldIyHalves :
    Instr.wellFormed (.ldIyHalves .a .c) = false ∧ Instr.wellFormed (.ldIyHalves .h .c) = true :=
  by decide
theorem test_illFormed_ldRIyd :
    Instr.wellFormed (.ldRIyd .mhl) = false ∧ Instr.wellFormed (.ldRIyd .b) = true :=
  by decide
theorem test_illFormed_ldIydR :
    Instr.wellFormed (.ldIydR .mhl) = false ∧ Instr.wellFormed (.ldIydR .b) = true :=
  by decide
theorem test_illFormed_unrepIxCb :
    Instr.wellFormed (.unrepIxCb 0x06) = false ∧ Instr.wellFormed (.unrepIxCb 0x07) = true :=
  by decide
theorem test_illFormed_unrepIyCb :
    Instr.wellFormed (.unrepIyCb 0xFE) = false ∧ Instr.wellFormed (.unrepIyCb 0xFF) = true :=
  by decide
theorem test_illFormed_in0RN : Instr.wellFormed (.in0RN .mhl) = false ∧ Instr.wellFormed (.in0RN .a) = true := by decide
theorem test_illFormed_out0NR :
    Instr.wellFormed (.out0NR .mhl) = false ∧ Instr.wellFormed (.out0NR .a) = true :=
  by decide
theorem test_illFormed_unrepEd :
    Instr.wellFormed (.unrepEd 0x40) = false ∧ Instr.wellFormed (.unrepEd 0x30) = true :=
  by decide
theorem test_illFormed_inRC : Instr.wellFormed (.inRC .mhl) = false ∧ Instr.wellFormed (.inRC .b) = true := by decide
theorem test_illFormed_outCR : Instr.wellFormed (.outCR .mhl) = false ∧ Instr.wellFormed (.outCR .b) = true := by decide
theorem test_illFormed_unrepEdBlock :
    Instr.wellFormed (.unrepEdBlock 0xA0) = false ∧ Instr.wellFormed (.unrepEdBlock 0xA5) = true :=
  by decide

-- Words written out bit by bit from the "Encoding" lines of the rules
/-- R200, R205, R217, R204. -/
theorem test_word_base_x0 :
    classify (.base false .hl) 0b00000000 = .nop ∧ classify (.base false .hl) 0b00110001 = .ldRrNn .sp ∧
    classify (.base false .hl) 0b00101100 = .incR .l ∧ classify (.base false .hl) 0b00111000 = .jrCc .c :=
  by decide
/-- R229, R228, R232. -/
theorem test_word_base_x1x2 :
    classify (.base false .hl) 0b01000001 = .ldRR .b .c ∧ classify (.base false .hl) 0b01110110 = .halt ∧
    classify (.base false .hl) 0b10010110 = .subAR .mhl :=
  by decide
/-- R244, R253, R263. -/
theorem test_word_base_x3 :
    classify (.base true .hl) 0b11111010 = .jpCcNn .m ∧ classify (.base true .hl) 0b11110101 = .pushQq .af ∧
    classify (.base true .hl) 0b11011111 = .rst 3 :=
  by decide
/-- R303, R316, R328, R314. -/
theorem test_word_indexed :
    classify (.base false .ix) 0b00101001 = .addIxRr .hl ∧ classify (.base false .iy) 0b01100101 = .ldIyHalves .h .l ∧
    classify (.base false .ix) 0b00110001 = .ldOtherIxd ∧ classify (.base false .iy) 0b01100110 = .ldRIyd .h :=
  by decide
/-- R358, R359, R361. -/
theorem test_word_cb :
    classify .cb 0b00111000 = .srlR .b ∧ classify .cb 0b01111110 = .bitBR 7 .mhl ∧ classify .cb 0b11001011 = .setBR 1 .e :=
  by decide
/-- R363, R372, R374. -/
theorem test_word_indexCb :
    classify (.indexCb .ix) 0b00000110 = .rlcIxd ∧ classify (.indexCb .iy) 0b10111110 = .resBIyd 7 ∧
    classify (.indexCb .iy) 0b01000111 = .unrepIyCb 0x47 :=
  by decide
/-- R404, R415, R419, R442. -/
theorem test_word_ed :
    classify .ed 0b00110011 = .leaRrIyd .index ∧ classify .ed 0b01001011 = .ldRrMem .bc ∧
    classify .ed 0b01010101 = .leaIyIxd ∧ classify .ed 0b01110000 = .unrepEd 0x70 :=
  by decide
/-- R487, R502, R507. -/
theorem test_word_edBlock :
    classify .ed 0b10111001 = .cpdr ∧ classify .ed 0b10011100 = .ind2r ∧ classify .ed 0b10011001 = .unrepEdBlock 0x99 :=
  by decide
/-- R114, R113, R115. -/
theorem test_word_prefixes :
    classify (.base false .hl) 0b01001001 = .modeSelect .lis ∧ classify (.base true .hl) 0b01001001 = .prefixOnly ∧
    classify (.base true .hl) 0b11111101 = .indexPrefix .iy ∧ classify (.base false .ix) 0b11101101 = .prefixOnly :=
  by decide
/-- R415. -/
theorem test_word_chain :
    decodeChain .indexed (.base false .hl) [0x5B, 0xED, 0x4B, 0x00] = .ok (.ed, .ldRrMem .bc, [0x00]) :=
  rfl

-- The spec's worked examples (95_test_vectors.md): text, length, cursor after
theorem test_vector_10_80 :
    shown (after 2 (startAt .adlMode 0x000010 [0x10, 0x80])) = some ("DJNZ &FFFF92", 2, 0x000012) :=
  by decide
theorem test_vector_18_7F :
    shown (after 2 (startAt .adlMode 0xFFFFF0 [0x18, 0x7F])) = some ("JR &000071", 2, 0xFFFFF2) :=
  by decide
theorem test_vector_38_FC :
    shown (after 2 (startAt .z80Mode 0x120010 [0x38, 0xFC])) = some ("JR C,&12000E", 2, 0x120012) :=
  by decide
theorem test_vector_21_34_12_56 :
    shown (after 4 (startAt .adlMode 0x001000 [0x21, 0x34, 0x12, 0x56])) = some ("LD HL,&561234", 4, 0x001004) :=
  by decide
theorem test_vector_01_FF_FF :
    shown (after 3 (startAt .z80Mode 0x00FFFD [0x01, 0xFF, 0xFF])) = some ("LD BC,&01FFFF", 3, 0x010000) :=
  by decide
theorem test_vector_22_00_80_04 :
    shown (after 4 (startAt .adlMode 0x001000 [0x22, 0x00, 0x80, 0x04])) = some ("LD (&048000),HL", 4, 0x001004) :=
  by decide
theorem test_vector_36_AB :
    shown (after 2 (startAt .adlMode 0x001000 [0x36, 0xAB])) = some ("LD (HL),&AB", 2, 0x001002) :=
  by decide
theorem test_vector_64 : shown (after 1 (startAt .adlMode 0x001000 [0x64])) = some ("LD H,H", 1, 0x001001) := by decide
theorem test_vector_96 :
    shown (after 1 (startAt .adlMode 0x001000 [0x96])) = some ("SUB A,(HL)", 1, 0x001001) :=
  by decide
theorem test_vector_FA_00_00_01 :
    shown (after 4 (startAt .adlMode 0x001000 [0xFA, 0x00, 0x00, 0x01])) = some ("JP M,&010000", 4, 0x001004) :=
  by decide
theorem test_vector_D3_7F :
    shown (after 2 (startAt .adlMode 0x001000 [0xD3, 0x7F])) = some ("OUT (&7F),A", 2, 0x001002) :=
  by decide
theorem test_vector_FE_FF :
    shown (after 2 (startAt .adlMode 0x001000 [0xFE, 0xFF])) = some ("CP A,&FF", 2, 0x001002) :=
  by decide
theorem test_vector_FF : shown (after 1 (startAt .adlMode 0x001000 [0xFF])) = some ("RST &38", 1, 0x001001) := by decide
theorem test_vector_49_78 :
    shown (after 2 (startAt .adlMode 0x001000 [0x49, 0x78])) = some ("LD.LIS A,B", 2, 0x001002) :=
  by decide
theorem test_vector_40_21_34_12 :
    shown (after 4 ({ startAt .adlMode 0x001000 [0x40, 0x21, 0x34, 0x12] with params := { Params.default with widthPolicy := .suffixOverrides } })) = some ("LD.SIS HL,&001234", 4, 0x001004) :=
  by decide
theorem test_vector_52_C3_00_00_04 :
    shown (after 5 (startAt .z80Mode 0x001000 [0x52, 0xC3, 0x00, 0x00, 0x04])) = some ("JP.SIL &040000", 5, 0x001005) :=
  by decide
theorem test_vector_40_40_00 :
    shown (after 2 (startAt .adlMode 0x001000 [0x40, 0x40, 0x00])) = some ("", 1, 0x001001) :=
  by decide
theorem test_vector_5B_76 :
    shown (after 2 (startAt .adlMode 0x001000 [0x5B, 0x76])) = some ("HALT.LIL", 2, 0x001002) :=
  by decide
theorem test_vector_DD_5B_21_01_02_03 :
    shown (after 6 (startAt .z80Mode 0x001000 [0xDD, 0x5B, 0x21, 0x01, 0x02, 0x03])) = some ("LD.LIL IX,&030201", 6, 0x001006) :=
  by decide
theorem test_vector_DD_21_00_10_00 :
    shown (after 5 (startAt .adlMode 0x001000 [0xDD, 0x21, 0x00, 0x10, 0x00])) = some ("LD IX,&001000", 5, 0x001005) :=
  by decide
theorem test_vector_FD_29 :
    shown (after 2 (startAt .adlMode 0x001000 [0xFD, 0x29])) = some ("ADD IY,IY", 2, 0x001002) :=
  by decide
theorem test_vector_FD_2D :
    shown (after 2 (startAt .adlMode 0x001000 [0xFD, 0x2D])) = some ("DEC IYL", 2, 0x001002) :=
  by decide
theorem test_vector_DD_36_80_55 :
    shown (after 4 (startAt .adlMode 0x001000 [0xDD, 0x36, 0x80, 0x55])) = some ("LD (IX-128),&55", 4, 0x001004) :=
  by decide
theorem test_vector_DD_66_7F :
    shown (after 3 (startAt .adlMode 0x001000 [0xDD, 0x66, 0x7F])) = some ("LD H,(IX+127)", 3, 0x001003) :=
  by decide
theorem test_vector_FD_74_05 :
    shown (after 3 (startAt .adlMode 0x001000 [0xFD, 0x74, 0x05])) = some ("LD (IY+5),H", 3, 0x001003) :=
  by decide
theorem test_vector_DD_65 :
    shown (after 2 (startAt .adlMode 0x001000 [0xDD, 0x65])) = some ("LD IXH,IXL", 2, 0x001002) :=
  by decide
theorem test_vector_FD_BE_F6 :
    shown (after 3 (startAt .adlMode 0x001000 [0xFD, 0xBE, 0xF6])) = some ("CP A,(IY-10)", 3, 0x001003) :=
  by decide
theorem test_vector_DD_E9 :
    shown (after 2 (startAt .adlMode 0x001000 [0xDD, 0xE9])) = some ("JP (IX)", 2, 0x001002) :=
  by decide
theorem test_vector_DD_EB :
    shown (after 2 (startAt .adlMode 0x001000 [0xDD, 0xEB])) = some ("EX DE,HL", 2, 0x001002) :=
  by decide
theorem test_vector_FD_37_02 :
    shown (after 3 (startAt .adlMode 0x001000 [0xFD, 0x37, 0x02])) = some ("LD IY,(IY+2)", 3, 0x001003) :=
  by decide
theorem test_vector_DD_31_06 :
    shown (after 3 (startAt .adlMode 0x001000 [0xDD, 0x31, 0x06])) = some ("LD IY,(IX+6)", 3, 0x001003) :=
  by decide
theorem test_vector_FD_3E_80 :
    shown (after 3 (startAt .adlMode 0x001000 [0xFD, 0x3E, 0x80])) = some ("LD (IY-128),IX", 3, 0x001003) :=
  by decide
theorem test_vector_FD_ED_44 :
    shown (after 2 (startAt .adlMode 0x001000 [0xFD, 0xED, 0x44])) = some ("", 1, 0x001001) :=
  by decide
theorem test_vector_DD_40_40 :
    shown (after 3 (startAt .adlMode 0x001000 [0xDD, 0x40, 0x40])) = some ("", 2, 0x001002) :=
  by decide
theorem test_vector_CB_0E :
    shown (after 2 (startAt .adlMode 0x001000 [0xCB, 0x0E])) = some ("RRC (HL)", 2, 0x001002) :=
  by decide
theorem test_vector_CB_33 :
    shown (after 2 (startAt .adlMode 0x001000 [0xCB, 0x33])) = some ("SLL E", 2, 0x001002) :=
  by decide
theorem test_vector_CB_FF :
    shown (after 2 (startAt .adlMode 0x001000 [0xCB, 0xFF])) = some ("SET 7,A", 2, 0x001002) :=
  by decide
theorem test_vector_DD_CB_06_06 :
    shown (after 4 (startAt .adlMode 0x001000 [0xDD, 0xCB, 0x06, 0x06])) = some ("RLC (IX+6)", 4, 0x001004) :=
  by decide
theorem test_vector_DD_CB_06 :
    shown (after 3 ({ startAt .adlMode 0x001000 [0xDD, 0xCB, 0x06] with params := { Params.default with ddcbPolicy := .ignoreIndex } })) = some ("RLC (HL)", 3, 0x001003) :=
  by decide
theorem test_vector_FD_CB_FE_1E :
    shown (after 4 (startAt .adlMode 0x001000 [0xFD, 0xCB, 0xFE, 0x1E])) = some ("RR (IY-2)", 4, 0x001004) :=
  by decide
theorem test_vector_FD_CB_80_BE :
    shown (after 4 (startAt .adlMode 0x001000 [0xFD, 0xCB, 0x80, 0xBE])) = some ("RES 7,(IY-128)", 4, 0x001004) :=
  by decide
theorem test_vector_DD_CB_01_00 :
    shown (after 4 (startAt .adlMode 0x001000 [0xDD, 0xCB, 0x01, 0x00])) = some ("", 4, 0x001004) :=
  by decide
theorem test_vector_ED_00_12 :
    shown (after 3 (startAt .adlMode 0x001000 [0xED, 0x00, 0x12])) = some ("IN0 B,(&12)", 3, 0x001003) :=
  by decide
theorem test_vector_ED_33_FB :
    shown (after 3 (startAt .adlMode 0x001000 [0xED, 0x33, 0xFB])) = some ("LEA IY,IY-5", 3, 0x001003) :=
  by decide
theorem test_vector_ED_34 :
    shown (after 2 (startAt .adlMode 0x001000 [0xED, 0x34])) = some ("TST A,(HL)", 2, 0x001002) :=
  by decide
theorem test_vector_ED_3E :
    shown (after 2 (startAt .adlMode 0x001000 [0xED, 0x3E])) = some ("LD (HL),IY", 2, 0x001002) :=
  by decide
theorem test_vector_ED_7B_00_10 :
    shown (after 4 (startAt .z80Mode 0x0B0000 [0xED, 0x7B, 0x00, 0x10])) = some ("LD SP,(&0B1000)", 4, 0x0B0004) :=
  by decide
theorem test_vector_ED_55_7F :
    shown (after 3 (startAt .adlMode 0x001000 [0xED, 0x55, 0x7F])) = some ("LEA IY,IX+127", 3, 0x001003) :=
  by decide
theorem test_vector_ED_74_F0 :
    shown (after 3 (startAt .adlMode 0x001000 [0xED, 0x74, 0xF0])) = some ("TSTIO &F0", 3, 0x001003) :=
  by decide
theorem test_vector_ED_46 :
    shown (after 2 (startAt .adlMode 0x001000 [0xED, 0x46])) = some ("IM 0", 2, 0x001002) :=
  by decide
theorem test_vector_ED_FF : shown (after 2 (startAt .adlMode 0x001000 [0xED, 0xFF])) = some ("", 2, 0x001002) := by decide
theorem test_vector_ED_B9 :
    shown (after 2 (startAt .adlMode 0x001000 [0xED, 0xB9])) = some ("CPDR", 2, 0x001002) :=
  by decide
theorem test_vector_ED_A5 : shown (after 2 (startAt .adlMode 0x001000 [0xED, 0xA5])) = some ("", 2, 0x001002) := by decide
theorem test_vector_ED_9C :
    shown (after 2 (startAt .adlMode 0x001000 [0xED, 0x9C])) = some ("IND2R", 2, 0x001002) :=
  by decide
theorem test_vector_ED_CB :
    shown (after 2 (startAt .adlMode 0x001000 [0xED, 0xCB])) = some ("OTDRX", 2, 0x001002) :=
  by decide

-- Single steps
/-- R602's example: NOP, then `21 34` and an unreadable third word byte. -/
def faultExample : State :=
  { startAt .adlMode 0x001000 [0x00, 0x21, 0x34] with
    remaining := 8, params := { Params.default with unreadable := [⟨0x001003, 0xFFFFFF⟩] } }
theorem test_fault_example :
    (after 4 faultExample).fault = .streamFault 0x001003 ∧ (after 4 faultExample).runState = .faulted ∧
    (after 4 faultExample).cursor = 0x001003 ∧ (after 4 faultExample).remaining = 7 ∧
    (after 4 faultExample).emitted.map (·.mnemonicText) = ["NOP"] :=
  by decide

/-- R113: the byte that ends the instruction is read again as the first byte of the next one. -/
theorem test_prefixOnly_then_next :
    (after 4 (adl [0x40, 0x49, 0x78])).emitted.map (fun r => (r.mnemonicText, r.byteLength)) = [("", 1), ("LD.LIS A,B", 2)] :=
  by decide

/-- The record of 5B ED 4B 00 10 20 (R121: six bytes; R40). -/
theorem test_record_six_bytes :
    (after 6 (startAt .z80Mode 0 [0x5B, 0xED, 0x4B, 0x00, 0x10, 0x20])).output.map
      (fun r => (r.form, r.page, r.w, r.mnemonicText)) = some (some 415, some .ed, some 0x201000, "LD.LIL BC,(&201000)") :=
  by decide

/-- R140, R39: an instruction that begins within the budget is decoded whole, and `remaining` ends below zero. -/
theorem test_budget_overrun :
    (after 4 { adl [0x21, 0x34, 0x12, 0x56] with remaining := 1 }).remaining = -3 ∧
    (after 4 { adl [0x21, 0x34, 0x12, 0x56] with remaining := 1 }).runState = .done :=
  by decide

/-- R701, R8: a start with no width flag. -/
def asked (start : Nat) (count : Int) (flag : Option Nat) : State := { State.reset with inbox := [.start start count flag] }
theorem test_start_default_width :
    (after 1 (asked 0x040000 16 none)).execWidth = .adlMode ∧ (after 1 (asked 0x040000 16 none)).cursor = 0x040000 ∧
    (after 1 (asked 0x040000 16 none)).runState = .running ∧ (after 1 (asked 0 16 (some 0))).execWidth = .z80Mode :=
  by decide
/-- D4: a budget of 0. -/
theorem test_start_zero_budget : (after 1 (asked 0x040000 0 none)).runState = .done := by decide
/-- R700: before the first start only `runState` holds a value. -/
theorem test_host_read_before_start :
    hostRead State.reset .cursor = .faultBeforeStart ∧ hostRead State.reset .runState = .value (.runState .idle) :=
  ⟨rfl, rfl⟩
/-- R615: after a run the registers answer, during one they do not. -/
theorem test_host_read_run :
    hostRead (after 1 (adl [0x76])) .cursor = .refusedDuringRun ∧
    hostRead (after 1 { adl [0x76] with remaining := 1 }) .cursor = .value (.cursor 0x001001) :=
  ⟨rfl, rfl⟩
/-- R42: with no run active a row that is applied makes no read. -/
theorem test_row_without_run : exec .jpNn State.reset = .next State.reset := rfl
/-- I4, I3, R703, I5. -/
theorem test_refusals :
    step { adl [0x00] with inbox := [.start 0 1 none] } = .refused .startWhileRunning ∧
    step { adl [0x00] with inbox := [.setStream 0 1] } = .refused .streamChangedDuringRun ∧
    step { adl [0x00] with inbox := [.configure Params.default] } = .refused .paramsChangedDuringRun ∧
    step (asked 0x1000000 1 none) = .refused .inputOutOfType ∧ step (asked 0 1 (some 2)) = .refused .inputOutOfType :=
  ⟨rfl, rfl, rfl, rfl, rfl⟩

/-- A table word: its bits count from the first byte. -/
theorem test_table_word :
    decodeTableWord 8 0x21 = some (.ldRrNn .hl) ∧ decodeTableWord 16 0x21DD = some .ldIxNn ∧
    decodeTableWord 16 0xB9ED = some .cpdr ∧ decodeTableWord 8 0x76 = some .halt :=
  by decide
theorem test_withFetchWord_base :
    step (State.reset.withFetchWord 8 0x76) = exec .halt (State.reset.withFetchWord 8 0x76) ∧
    shown (after 1 (State.reset.withFetchWord 8 0x76)) = some ("HALT", 1, 1) :=
  ⟨rfl, by decide⟩
theorem test_withFetchWord_ed :
    step (State.reset.withFetchWord 16 0xB9ED) = exec .cpdr (State.reset.withFetchWord 16 0xB9ED) ∧
    shown (after 1 (State.reset.withFetchWord 16 0xB9ED)) = some ("CPDR", 2, 2) :=
  ⟨rfl, by decide⟩

-- For every statement with hypotheses, states and operands that meet them. `Ready s page bytes`: the premises of a completion
-- statement; `Failing s`: those of a fault.

def Ready (s : State) (page : Page) (bytes : List Byte) : Prop := AtOpcode s page ∧ Holds s s.cursor bytes
def ReadyIndexCb (s : State) (bytes : List Byte) : Prop := AtIndexCb s ∧ Holds s s.cursor bytes
def Failing (s : State) : Prop := s.runState = .running ∧ readable s.params s.cursor = false

/-- The block as it stands after `lead`, in front of `bytes`. -/
def at_ (width : ExecWidth) (a : Addr) (lead bytes : List Byte) : State := after lead.length (startAt width a (lead ++ bytes))

/-- The fault premise, at the first and at a later byte of an instruction. -/
theorem test_hyp_failing :
    Failing (unreadableAt 0x001000 (adl [0x00])) ∧ Failing (unreadableAt 0xFFFFFF (startAt .z80Mode 0xFFFFFF [])) ∧
    Failing (unreadableAt 0x001002 (at_ .adlMode 0x001000 [0x21, 0x34] [])) :=
  ⟨⟨rfl, rfl⟩, ⟨rfl, rfl⟩, ⟨rfl, rfl⟩⟩
/-- First and last field values; with a suffix and at the top of the address space. -/
theorem test_hyp_BaseIndirectAndIncrementRows :
    Ready (at_ .adlMode 0x001000 [] [0x03]) .base [0x03] ∧
    Ready (at_ .adlMode 0x001000 [] [0x3D]) .base [0x3D] ∧
    Ready (at_ .z80Mode 0xFFFFFF [0x49] [0x00]) .base [0x00] :=
  ⟨⟨⟨rfl, by decide, rfl⟩, rfl, rfl, trivial⟩,
    ⟨⟨rfl, by decide, rfl⟩, rfl, rfl, trivial⟩,
    ⟨⟨rfl, by decide, rfl⟩, rfl, rfl, trivial⟩⟩
/-- The field premise at y = z = 4, at y = z = 7 and at y = 0, z = 1; a mode-select y. -/
theorem test_hyp_AccumulatorAndRegisterLoadRows :
    Ready (at_ .adlMode 0x001000 [] [0x64]) .base [0x64] ∧
    Ready (at_ .adlMode 0x001000 [0x49] [0x7F]) .base [0x7F] ∧
    Ready (at_ .z80Mode 0xFFFFFF [] [0x41]) .base [0x41] ∧
    ((4 : Fin 8) = 4 → 4 ≤ (4 : Fin 8) ∧ (4 : Fin 8) ≠ 6) ∧
    ((7 : Fin 8) = 7 → 4 ≤ (7 : Fin 8) ∧ (7 : Fin 8) ≠ 6) ∧
    ((0 : Fin 8) = 1 → 4 ≤ (0 : Fin 8) ∧ (0 : Fin 8) ≠ 6) ∧
    ((0 : Fin 8) < 4 ∧ (3 : Fin 8) < 4) ∧
    (Reg8.b = .b ∨ Reg8.b = .c ∨ Reg8.b = .d ∨ Reg8.b = .e) :=
  ⟨⟨⟨rfl, by decide, rfl⟩, rfl, rfl, trivial⟩,
    ⟨⟨rfl, by decide, rfl⟩, rfl, rfl, trivial⟩,
    ⟨⟨rfl, by decide, rfl⟩, rfl, rfl, trivial⟩,
    by decide,
    by decide,
    by decide,
    by decide,
    by decide⟩
/-- A relative target across the top of the address space; a long word in ADL mode and by a suffix; a short word; the field premise. -/
theorem test_hyp_BaseImmediateAndRelativeRows :
    Ready (at_ .adlMode 0xFFFFF0 [] [0x18, 0x7F]) .base [0x18, 0x7F] ∧
    Ready (at_ .z80Mode 0x000000 [] [0x38, 0x80]) .base [0x38, 0x80] ∧
    (Ready (at_ .adlMode 0x001000 [] [0x21, 0x34, 0x12, 0x56]) .base [0x21, 0x34, 0x12, 0x56] ∧ LongWord (at_ .adlMode 0x001000 [] [0x21, 0x34, 0x12, 0x56])) ∧
    (Ready (at_ .z80Mode 0x001000 [0x52] [0x3A, 0x00, 0x00, 0x04]) .base [0x3A, 0x00, 0x00, 0x04] ∧ LongWord (at_ .z80Mode 0x001000 [0x52] [0x3A, 0x00, 0x00, 0x04])) ∧
    (Ready (at_ .z80Mode 0x00FFFD [] [0x01, 0xFF, 0xFF]) .base [0x01, 0xFF, 0xFF] ∧ ¬ LongWord (at_ .z80Mode 0x00FFFD [] [0x01, 0xFF, 0xFF])) ∧
    Ready (at_ .adlMode 0x001000 [] [0x36, 0xAB]) .base [0x36, 0xAB] ∧
    ((0 : Fin 8) < 4 ∧ (3 : Fin 8) < 4) :=
  ⟨⟨⟨rfl, by decide, rfl⟩, rfl, rfl, rfl, rfl, trivial⟩,
    ⟨⟨rfl, by decide, rfl⟩, rfl, rfl, rfl, rfl, trivial⟩,
    ⟨⟨⟨rfl, by decide, rfl⟩, rfl, rfl, rfl, rfl, rfl, rfl, rfl, rfl, trivial⟩, (wordIsLong_iff _).1 rfl⟩,
    ⟨⟨⟨rfl, by decide, rfl⟩, rfl, rfl, rfl, rfl, rfl, rfl, rfl, rfl, trivial⟩, (wordIsLong_iff _).1 rfl⟩,
    ⟨⟨⟨rfl, by decide, rfl⟩, rfl, rfl, rfl, rfl, rfl, rfl, trivial⟩, fun h => absurd ((wordIsLong_iff _).2 h) (by decide)⟩,
    ⟨⟨rfl, by decide, rfl⟩, rfl, rfl, rfl, rfl, trivial⟩,
    by decide⟩
/-- First and last byte, the last with a suffix. -/
theorem test_hyp_RegisterAluRows :
    Ready (at_ .adlMode 0x001000 [] [0x80]) .base [0x80] ∧
    Ready (at_ .z80Mode 0xFFFFFF [0x49] [0xBF]) .base [0xBF] :=
  ⟨⟨⟨rfl, by decide, rfl⟩, rfl, rfl, trivial⟩,
    ⟨⟨rfl, by decide, rfl⟩, rfl, rfl, trivial⟩⟩
/-- First and last byte, the last with a suffix. -/
theorem test_hyp_StackExchangeAndRestartRows :
    Ready (at_ .adlMode 0x001000 [] [0xC0]) .base [0xC0] ∧
    Ready (at_ .z80Mode 0xFFFFFF [0x49] [0xFF]) .base [0xFF] :=
  ⟨⟨⟨rfl, by decide, rfl⟩, rfl, rfl, trivial⟩,
    ⟨⟨rfl, by decide, rfl⟩, rfl, rfl, trivial⟩⟩
/-- A long and a short word; a port byte. -/
theorem test_hyp_JumpCallAndPortRows :
    (Ready (at_ .adlMode 0x001000 [] [0xFA, 0x00, 0x00, 0x01]) .base [0xFA, 0x00, 0x00, 0x01] ∧ LongWord (at_ .adlMode 0x001000 [] [0xFA, 0x00, 0x00, 0x01])) ∧
    (Ready (at_ .z80Mode 0x001000 [0x49] [0xCD, 0x00, 0x80]) .base [0xCD, 0x00, 0x80] ∧ ¬ LongWord (at_ .z80Mode 0x001000 [0x49] [0xCD, 0x00, 0x80])) ∧
    Ready (at_ .adlMode 0x001000 [] [0xD3, 0xFF]) .base [0xD3, 0xFF] :=
  ⟨⟨⟨⟨rfl, by decide, rfl⟩, rfl, rfl, rfl, rfl, rfl, rfl, rfl, rfl, trivial⟩, (wordIsLong_iff _).1 rfl⟩,
    ⟨⟨⟨rfl, by decide, rfl⟩, rfl, rfl, rfl, rfl, rfl, rfl, trivial⟩, fun h => absurd ((wordIsLong_iff _).2 h) (by decide)⟩,
    ⟨⟨rfl, by decide, rfl⟩, rfl, rfl, rfl, rfl, trivial⟩⟩
/-- First and last row. -/
theorem test_hyp_ImmediateAluRows :
    Ready (at_ .adlMode 0x001000 [] [0xC6, 0x00]) .base [0xC6, 0x00] ∧
    Ready (at_ .z80Mode 0xFFFFFF [0x49] [0xFE, 0xFF]) .base [0xFE, 0xFF] :=
  ⟨⟨⟨rfl, by decide, rfl⟩, rfl, rfl, rfl, rfl, trivial⟩,
    ⟨⟨rfl, by decide, rfl⟩, rfl, rfl, rfl, rfl, trivial⟩⟩
/-- Under DD, and under FD with a suffix; the field premises at their ends. -/
theorem test_hyp_IndexedPlainRows :
    Ready (at_ .adlMode 0x001000 [0xDD] [0x29]) .base [0x29] ∧
    Ready (at_ .z80Mode 0x001000 [0xFD, 0x49] [0x2D]) .base [0x2D] ∧
    Ready (at_ .adlMode 0xFFFFFE [0x5B, 0xDD] [0xE3]) .base [0xE3] ∧
    ((4 : Fin 8) = 4 ∨ (4 : Fin 8) = 5) ∧
    ((5 : Fin 8) = 4 ∨ (5 : Fin 8) = 5) ∧
    ((0 : Fin 8) ≠ 6 ∧ (4 : Fin 8) ≠ 6 ∧ ((0 : Fin 8) = 4 ∨ (0 : Fin 8) = 5 ∨ (4 : Fin 8) = 4 ∨ (4 : Fin 8) = 5)) ∧
    ((5 : Fin 8) ≠ 6 ∧ (7 : Fin 8) ≠ 6 ∧ ((5 : Fin 8) = 4 ∨ (5 : Fin 8) = 5 ∨ (7 : Fin 8) = 4 ∨ (7 : Fin 8) = 5)) :=
  ⟨⟨⟨rfl, by decide, rfl⟩, rfl, rfl, trivial⟩,
    ⟨⟨rfl, by decide, rfl⟩, rfl, rfl, trivial⟩,
    ⟨⟨rfl, by decide, rfl⟩, rfl, rfl, trivial⟩,
    by decide,
    by decide,
    by decide,
    by decide⟩
/-- Displacements -128, 127 and 0; the field premises at their ends. -/
theorem test_hyp_IndexedDisplacementRows :
    Ready (at_ .adlMode 0x001000 [0xDD] [0x34, 0x80]) .base [0x34, 0x80] ∧
    Ready (at_ .z80Mode 0x001000 [0xFD, 0x49] [0x77, 0x7F]) .base [0x77, 0x7F] ∧
    Ready (at_ .adlMode 0x001000 [0xDD] [0x31, 0x00]) .base [0x31, 0x00] ∧
    ((0 : Fin 8) ≠ 6 ∧ (7 : Fin 8) ≠ 6) ∧
    ((0 : Fin 4) < 3 ∧ (2 : Fin 4) < 3) :=
  ⟨⟨⟨rfl, by decide, rfl⟩, rfl, rfl, rfl, rfl, trivial⟩,
    ⟨⟨rfl, by decide, rfl⟩, rfl, rfl, rfl, rfl, trivial⟩,
    ⟨⟨rfl, by decide, rfl⟩, rfl, rfl, rfl, rfl, trivial⟩,
    by decide,
    by decide⟩
/-- A word, long and short, a half and an immediate, a displacement and an immediate; the field premise. -/
theorem test_hyp_IndexedImmediateRows :
    (Ready (at_ .adlMode 0x001000 [0xDD] [0x21, 0x00, 0x10, 0x00]) .base [0x21, 0x00, 0x10, 0x00] ∧ LongWord (at_ .adlMode 0x001000 [0xDD] [0x21, 0x00, 0x10, 0x00])) ∧
    (Ready (at_ .z80Mode 0x001000 [0xFD] [0x2A, 0x00, 0x10]) .base [0x2A, 0x00, 0x10] ∧ ¬ LongWord (at_ .z80Mode 0x001000 [0xFD] [0x2A, 0x00, 0x10])) ∧
    Ready (at_ .adlMode 0x001000 [0xFD] [0x2E, 0xAB]) .base [0x2E, 0xAB] ∧
    Ready (at_ .adlMode 0x001000 [0xDD] [0x36, 0x80, 0x55]) .base [0x36, 0x80, 0x55] ∧
    ((4 : Fin 8) = 4 ∨ (4 : Fin 8) = 5) ∧
    ((5 : Fin 8) = 4 ∨ (5 : Fin 8) = 5) :=
  ⟨⟨⟨⟨rfl, by decide, rfl⟩, rfl, rfl, rfl, rfl, rfl, rfl, rfl, rfl, trivial⟩, (wordIsLong_iff _).1 rfl⟩,
    ⟨⟨⟨rfl, by decide, rfl⟩, rfl, rfl, rfl, rfl, rfl, rfl, trivial⟩, fun h => absurd ((wordIsLong_iff _).2 h) (by decide)⟩,
    ⟨⟨rfl, by decide, rfl⟩, rfl, rfl, rfl, rfl, trivial⟩,
    ⟨⟨rfl, by decide, rfl⟩, rfl, rfl, rfl, rfl, rfl, rfl, trivial⟩,
    by decide,
    by decide⟩
/-- NOP in front of an unreadable address, the last byte of the list, one operand byte, and a short and a long word, each with the bytes its recipe asks for. -/
theorem test_hyp_IndexInsensitiveRows :
    Ready (unreadableAt 0x001002 (at_ .adlMode 0x001000 [0xDD] [0x00])) .base [0x00] ∧
    (readable (unreadableAt 0x001002 (at_ .adlMode 0x001000 [0xDD] [0x00])).params ((unreadableAt 0x001002 (at_ .adlMode 0x001000 [0xDD] [0x00])).cursor + 1) = false) ∧
    Ready (at_ .z80Mode 0x001000 [0xFD] [0xFF]) .base [0xFF] ∧
    Ready (at_ .adlMode 0x001000 [0xFD] [0x06, 0x80]) .base [0x06, 0x80] ∧
    (Ready (at_ .z80Mode 0x001000 [0xFD] [0xC3, 0x34, 0x12]) .base [0xC3, 0x34, 0x12] ∧ ¬ LongWord (at_ .z80Mode 0x001000 [0xFD] [0xC3, 0x34, 0x12])) ∧
    (Ready (at_ .adlMode 0x001000 [0xFD, 0x49] [0xCD, 0x34, 0x12, 0x56]) .base [0xCD, 0x34, 0x12, 0x56] ∧ LongWord (at_ .adlMode 0x001000 [0xFD, 0x49] [0xCD, 0x34, 0x12, 0x56])) ∧
    ((formOf .srl (classifyBase 0x00)).map (recipeBytes ·.recipe true) = some 0 ∧ (formOf .srl (classifyBase 0x06)).map (recipeBytes ·.recipe true) = some 1) ∧
    ((formOf .srl (classifyBase 0xC3)).map (recipeBytes ·.recipe false) = some 2 ∧ (formOf .srl (classifyBase 0xCD)).map (recipeBytes ·.recipe true) = some 3) ∧
    (indexInsensitive 0x00 = true ∧ indexInsensitive 0xFF = true ∧ indexInsensitive 0xCD = true ∧ indexInsensitive 0xEB = true) :=
  ⟨⟨⟨rfl, by decide, rfl⟩, rfl, rfl, trivial⟩,
    by decide,
    ⟨⟨rfl, by decide, rfl⟩, rfl, rfl, trivial⟩,
    ⟨⟨rfl, by decide, rfl⟩, rfl, rfl, rfl, rfl, trivial⟩,
    ⟨⟨⟨rfl, by decide, rfl⟩, rfl, rfl, rfl, rfl, rfl, rfl, trivial⟩, fun h => absurd ((wordIsLong_iff _).2 h) (by decide)⟩,
    ⟨⟨⟨rfl, by decide, rfl⟩, rfl, rfl, rfl, rfl, rfl, rfl, rfl, rfl, trivial⟩, (wordIsLong_iff _).1 rfl⟩,
    by decide,
    by decide,
    by decide⟩
/-- First and last opcode of the page; a byte that is a mode-select elsewhere; after an index prefix is the other statement. -/
theorem test_hyp_CbRotateAndBitRows :
    Ready (at_ .adlMode 0x001000 [0xCB] [0x00]) .cb [0x00] ∧
    Ready (at_ .z80Mode 0xFFFFFE [0x49, 0xCB] [0xFF]) .cb [0xFF] ∧
    Ready (at_ .adlMode 0x001000 [0xCB] [0x40]) .cb [0x40] :=
  ⟨⟨⟨rfl, by decide, rfl⟩, rfl, rfl, trivial⟩,
    ⟨⟨rfl, by decide, rfl⟩, rfl, rfl, trivial⟩,
    ⟨⟨rfl, by decide, rfl⟩, rfl, rfl, trivial⟩⟩
/-- On the CB page, with the parameter either way; before and after the displacement. -/
theorem test_hyp_CbShiftRightLogicalRows :
    Ready (at_ .adlMode 0x001000 [0xCB] [0x38]) .cb [0x38] ∧
    ReadyIndexCb (at_ .adlMode 0x001000 [0xDD, 0xCB] [0x06, 0x3E]) [0x06, 0x3E] ∧
    ReadyIndexCb (at_ .z80Mode 0x001000 [0xFD, 0x49, 0xCB] [0x80, 0xFE]) [0x80, 0xFE] ∧
    (Ready (at_ .adlMode 0x001000 [0xDD, 0xCB, 0x06] [0x3E]) .indexCb [0x3E] ∧ (at_ .adlMode 0x001000 [0xDD, 0xCB, 0x06] [0x3E]).d = some 6) ∧
    (Ready { at_ .adlMode 0x001000 [0xCB] [0x3F] with params := { Params.default with cbY7Mnemonic := .srr } } .cb [0x3F]) :=
  ⟨⟨⟨rfl, by decide, rfl⟩, rfl, rfl, trivial⟩,
    ⟨⟨rfl, rfl, rfl⟩, rfl, rfl, rfl, rfl, trivial⟩,
    ⟨⟨rfl, rfl, rfl⟩, rfl, rfl, rfl, rfl, trivial⟩,
    ⟨⟨⟨rfl, by decide, rfl⟩, rfl, rfl, trivial⟩, rfl⟩,
    ⟨⟨rfl, by decide, rfl⟩, rfl, rfl, trivial⟩⟩
/-- Before the displacement (-128 and 127) and after it, IX and IY. -/
theorem test_hyp_IndexedCbRows :
    ReadyIndexCb (at_ .adlMode 0x001000 [0xDD, 0xCB] [0x7F, 0x06]) [0x7F, 0x06] ∧
    ReadyIndexCb (at_ .z80Mode 0x001000 [0xFD, 0x49, 0xCB] [0x80, 0xFE]) [0x80, 0xFE] ∧
    (Ready (at_ .adlMode 0x001000 [0xDD, 0xCB, 0x80] [0x46]) .indexCb [0x46] ∧ (at_ .adlMode 0x001000 [0xDD, 0xCB, 0x80] [0x46]).d = some (-128)) ∧
    (Ready (at_ .z80Mode 0x001000 [0x49, 0xFD, 0xCB, 0x7F] [0xFE]) .indexCb [0xFE] ∧ (at_ .z80Mode 0x001000 [0x49, 0xFD, 0xCB, 0x7F] [0xFE]).d = some 127) ∧
    Failing (unreadableAt 0x001002 (at_ .adlMode 0x001000 [0xDD, 0xCB] [])) :=
  ⟨⟨⟨rfl, rfl, rfl⟩, rfl, rfl, rfl, rfl, trivial⟩,
    ⟨⟨rfl, rfl, rfl⟩, rfl, rfl, rfl, rfl, trivial⟩,
    ⟨⟨⟨rfl, by decide, rfl⟩, rfl, rfl, trivial⟩, rfl⟩,
    ⟨⟨⟨rfl, by decide, rfl⟩, rfl, rfl, trivial⟩, rfl⟩,
    ⟨rfl, rfl⟩⟩
/-- Indexed CB with z = 0 and z = 7; ED bytes at the ends of both lists. -/
theorem test_hyp_UnrepresentedRows :
    ReadyIndexCb (at_ .adlMode 0x001000 [0xDD, 0xCB] [0x01, 0x00]) [0x01, 0x00] ∧
    Ready (at_ .adlMode 0x001000 [0xFD, 0xCB, 0x01] [0xFF]) .indexCb [0xFF] ∧
    ((0x00 : Byte).toNat % 8 ≠ 6 ∧ (0xFF : Byte).toNat % 8 ≠ 6) ∧
    Ready (at_ .adlMode 0x001000 [0xED] [0x30]) .ed [0x30] ∧
    Ready (at_ .z80Mode 0x001000 [0x49, 0xED] [0xFF]) .ed [0xFF] ∧
    ((0x30 : Byte) ∈ unrepresentedEdBytes ∧ (0xFF : Byte) ∈ unrepresentedEdBytes) ∧
    (0xC0 ≤ (0xC0 : Byte).toNat) ∧
    Ready (at_ .adlMode 0x001000 [0xED] [0x80]) .ed [0x80] ∧
    ((0 : Fin 8) < 4 ∧ ((0 : Fin 8) < 2 ∨ 4 < (0 : Fin 8)) ∨ 4 ≤ (0 : Fin 8) ∧ 4 < (0 : Fin 8)) ∧
    Ready (at_ .adlMode 0x001000 [0xED] [0xBF]) .ed [0xBF] ∧
    ((7 : Fin 8) < 4 ∧ ((7 : Fin 8) < 2 ∨ 4 < (7 : Fin 8)) ∨ 4 ≤ (7 : Fin 8) ∧ 4 < (7 : Fin 8)) :=
  ⟨⟨⟨rfl, rfl, rfl⟩, rfl, rfl, rfl, rfl, trivial⟩,
    ⟨⟨rfl, by decide, rfl⟩, rfl, rfl, trivial⟩,
    by decide,
    ⟨⟨rfl, by decide, rfl⟩, rfl, rfl, trivial⟩,
    ⟨⟨rfl, by decide, rfl⟩, rfl, rfl, trivial⟩,
    by decide,
    by decide,
    ⟨⟨rfl, by decide, rfl⟩, rfl, rfl, trivial⟩,
    by decide,
    ⟨⟨rfl, by decide, rfl⟩, rfl, rfl, trivial⟩,
    by decide⟩
/-- A port, a displacement, and a plain row; the field premises at their ends. -/
theorem test_hyp_EdLowPageRows :
    Ready (at_ .adlMode 0x001000 [0xED] [0x00, 0x12]) .ed [0x00, 0x12] ∧
    Ready (at_ .z80Mode 0x001000 [0x49, 0xED] [0x33, 0xFB]) .ed [0x33, 0xFB] ∧
    Ready (at_ .adlMode 0x001000 [0xED] [0x3E]) .ed [0x3E] ∧
    ((0 : Fin 8) ≠ 6 ∧ (7 : Fin 8) ≠ 6) ∧
    ((0 : Fin 8) ≠ 7 ∧ (6 : Fin 8) ≠ 7) :=
  ⟨⟨⟨rfl, by decide, rfl⟩, rfl, rfl, rfl, rfl, trivial⟩,
    ⟨⟨rfl, by decide, rfl⟩, rfl, rfl, rfl, rfl, trivial⟩,
    ⟨⟨rfl, by decide, rfl⟩, rfl, rfl, trivial⟩,
    by decide,
    by decide⟩
/-- A plain row, a long and a short word; the field premise. -/
theorem test_hyp_EdArithmeticAndLoadRows :
    Ready (at_ .adlMode 0x001000 [0xED] [0x40]) .ed [0x40] ∧
    (Ready (at_ .adlMode 0x001000 [0xED] [0x4B, 0x00, 0x10, 0x00]) .ed [0x4B, 0x00, 0x10, 0x00] ∧ LongWord (at_ .adlMode 0x001000 [0xED] [0x4B, 0x00, 0x10, 0x00])) ∧
    (Ready (at_ .z80Mode 0x0B0000 [0xED] [0x7B, 0x00, 0x10]) .ed [0x7B, 0x00, 0x10] ∧ ¬ LongWord (at_ .z80Mode 0x0B0000 [0xED] [0x7B, 0x00, 0x10])) ∧
    ((0 : Fin 8) ≠ 6 ∧ (7 : Fin 8) ≠ 6) ∧
    ((0x4C : Byte) ∈ ([0x4C, 0x54, 0x5C, 0x64, 0x6C, 0x74, 0x7C] : List Byte)) :=
  ⟨⟨⟨rfl, by decide, rfl⟩, rfl, rfl, trivial⟩,
    ⟨⟨⟨rfl, by decide, rfl⟩, rfl, rfl, rfl, rfl, rfl, rfl, rfl, rfl, trivial⟩, (wordIsLong_iff _).1 rfl⟩,
    ⟨⟨⟨rfl, by decide, rfl⟩, rfl, rfl, rfl, rfl, rfl, rfl, trivial⟩, fun h => absurd ((wordIsLong_iff _).2 h) (by decide)⟩,
    by decide,
    by decide⟩
/-- A displacement and an immediate. -/
theorem test_hyp_EdAddressAndTestRows :
    Ready (at_ .adlMode 0x001000 [0xED] [0x54, 0x80]) .ed [0x54, 0x80] ∧
    Ready (at_ .z80Mode 0x001000 [0x49, 0xED] [0x74, 0xF0]) .ed [0x74, 0xF0] :=
  ⟨⟨⟨rfl, by decide, rfl⟩, rfl, rfl, rfl, rfl, trivial⟩,
    ⟨⟨rfl, by decide, rfl⟩, rfl, rfl, rfl, rfl, trivial⟩⟩
/-- STMIX, and with a suffix IM 0. -/
theorem test_hyp_EdControlRows :
    Ready (at_ .adlMode 0x001000 [0xED] [0x7D]) .ed [0x7D] ∧
    Ready (at_ .z80Mode 0xFFFFFE [0x49, 0xED] [0x46]) .ed [0x46] :=
  ⟨⟨⟨rfl, by decide, rfl⟩, rfl, rfl, trivial⟩,
    ⟨⟨rfl, by decide, rfl⟩, rfl, rfl, trivial⟩⟩
/-- First and last row. -/
theorem test_hyp_EdSpecialRegisterRows :
    Ready (at_ .adlMode 0x001000 [0xED] [0x47]) .ed [0x47] ∧
    Ready (at_ .z80Mode 0xFFFFFE [0x49, 0xED] [0xD7]) .ed [0xD7] :=
  ⟨⟨⟨rfl, by decide, rfl⟩, rfl, rfl, trivial⟩,
    ⟨⟨rfl, by decide, rfl⟩, rfl, rfl, trivial⟩⟩
/-- First and last row. -/
theorem test_hyp_EdBlockLoadRows :
    Ready (at_ .adlMode 0x001000 [0xED] [0xA0]) .ed [0xA0] ∧
    Ready (at_ .z80Mode 0xFFFFFE [0x49, 0xED] [0xB1]) .ed [0xB1] :=
  ⟨⟨⟨rfl, by decide, rfl⟩, rfl, rfl, trivial⟩,
    ⟨⟨rfl, by decide, rfl⟩, rfl, rfl, trivial⟩⟩
/-- First and last row. -/
theorem test_hyp_EdBlockRepeatRows :
    Ready (at_ .adlMode 0x001000 [0xED] [0xB2]) .ed [0xB2] ∧
    Ready (at_ .z80Mode 0xFFFFFE [0x49, 0xED] [0x8A]) .ed [0x8A] :=
  ⟨⟨⟨rfl, by decide, rfl⟩, rfl, rfl, trivial⟩,
    ⟨⟨rfl, by decide, rfl⟩, rfl, rfl, trivial⟩⟩
/-- First and last row. -/
theorem test_hyp_EdBlockEz80Rows :
    Ready (at_ .adlMode 0x001000 [0xED] [0x8B]) .ed [0x8B] ∧
    Ready (at_ .z80Mode 0xFFFFFE [0x49, 0xED] [0xCB]) .ed [0xCB] :=
  ⟨⟨⟨rfl, by decide, rfl⟩, rfl, rfl, trivial⟩,
    ⟨⟨rfl, by decide, rfl⟩, rfl, rfl, trivial⟩⟩
/-- At an instruction start, after an index prefix, and after the mode-select itself. -/
theorem test_hyp_ModeSelectRow :
    ((at_ .adlMode 0x001000 [] [0x40]).runState = .running ∧ Holds (at_ .adlMode 0x001000 [] [0x40]) (at_ .adlMode 0x001000 [] [0x40]).cursor [0x40]) ∧
    ((at_ .z80Mode 0xFFFFFF [0xDD] [0x5B]).runState = .running ∧ Holds (at_ .z80Mode 0xFFFFFF [0xDD] [0x5B]) (at_ .z80Mode 0xFFFFFF [0xDD] [0x5B]).cursor [0x5B]) ∧
    ((at_ .adlMode 0x001000 [0x49] [0x00]).phase = .afterModeSelect) ∧
    ((0 : Fin 8) < 4 ∧ (3 : Fin 8) < 4) ∧
    (classify (.base false .ix) 0x52 = .modeSelect .sil) :=
  ⟨⟨rfl, ⟨rfl, rfl, trivial⟩⟩,
    ⟨rfl, ⟨rfl, rfl, trivial⟩⟩,
    by decide,
    by decide,
    by decide⟩
/-- At an instruction start and after a mode-select; after DD and after FD. -/
theorem test_hyp_IndexPrefixRow :
    ((at_ .adlMode 0x001000 [] [0xDD]).runState = .running ∧ Holds (at_ .adlMode 0x001000 [] [0xDD]) (at_ .adlMode 0x001000 [] [0xDD]).cursor [0xDD]) ∧
    ((at_ .z80Mode 0xFFFFFF [0x49] [0xFD]).runState = .running ∧ Holds (at_ .z80Mode 0xFFFFFF [0x49] [0xFD]) (at_ .z80Mode 0xFFFFFF [0x49] [0xFD]).cursor [0xFD]) ∧
    ((at_ .adlMode 0x001000 [0xDD] [0x00]).phase = .afterDD) ∧
    ((at_ .adlMode 0x001000 [0xFD] [0x00]).phase = .afterFD) ∧
    (classify (.base true .hl) 0xFD = .indexPrefix .iy) :=
  ⟨⟨rfl, ⟨rfl, rfl, trivial⟩⟩,
    ⟨rfl, ⟨rfl, rfl, trivial⟩⟩,
    by decide,
    by decide,
    by decide⟩
/-- At an instruction start, after a mode-select, after ED; a register set that is not HL. -/
theorem test_hyp_EdPrefixRow :
    ((at_ .adlMode 0x001000 [] [0xED]).runState = .running ∧ Holds (at_ .adlMode 0x001000 [] [0xED]) (at_ .adlMode 0x001000 [] [0xED]).cursor [0xED]) ∧
    ((at_ .z80Mode 0xFFFFFF [0x49] [0xED]).runState = .running ∧ Holds (at_ .z80Mode 0xFFFFFF [0x49] [0xED]) (at_ .z80Mode 0xFFFFFF [0x49] [0xED]).cursor [0xED]) ∧
    ((at_ .adlMode 0x001000 [0xED] [0x00]).phase = .afterED) ∧
    (classify (.base true .hl) 0xED = .edPrefix ∧ RegSet.ix ≠ .hl) :=
  ⟨⟨rfl, ⟨rfl, rfl, trivial⟩⟩,
    ⟨rfl, ⟨rfl, rfl, trivial⟩⟩,
    by decide,
    by decide⟩
/-- No index prefix; an index prefix under either policy; after CB; before and after the displacement; a form; z = 0 and 7. -/
theorem test_hyp_CbPrefixRow :
    ((at_ .adlMode 0x001000 [] [0xCB]).runState = .running ∧ Holds (at_ .adlMode 0x001000 [] [0xCB]) (at_ .adlMode 0x001000 [] [0xCB]).cursor [0xCB] ∧ (at_ .adlMode 0x001000 [] [0xCB]).phase ≠ .afterIndexCB ∧ (at_ .adlMode 0x001000 [] [0xCB]).regSet = .hl) ∧
    (({ at_ .adlMode 0x001000 [0xDD] [0xCB] with params := { Params.default with ddcbPolicy := .ignoreIndex } }).runState = .running ∧ Holds ({ at_ .adlMode 0x001000 [0xDD] [0xCB] with params := { Params.default with ddcbPolicy := .ignoreIndex } }) ({ at_ .adlMode 0x001000 [0xDD] [0xCB] with params := { Params.default with ddcbPolicy := .ignoreIndex } }).cursor [0xCB] ∧ ({ at_ .adlMode 0x001000 [0xDD] [0xCB] with params := { Params.default with ddcbPolicy := .ignoreIndex } }).phase ≠ .afterIndexCB ∧ ({ at_ .adlMode 0x001000 [0xDD] [0xCB] with params := { Params.default with ddcbPolicy := .ignoreIndex } }).params.ddcbPolicy = .ignoreIndex) ∧
    ((at_ .z80Mode 0x001000 [0x49, 0xFD] [0xCB]).runState = .running ∧ Holds (at_ .z80Mode 0x001000 [0x49, 0xFD] [0xCB]) (at_ .z80Mode 0x001000 [0x49, 0xFD] [0xCB]).cursor [0xCB] ∧ (at_ .z80Mode 0x001000 [0x49, 0xFD] [0xCB]).phase ≠ .afterIndexCB ∧ (at_ .z80Mode 0x001000 [0x49, 0xFD] [0xCB]).regSet ≠ .hl ∧ (at_ .z80Mode 0x001000 [0x49, 0xFD] [0xCB]).params.ddcbPolicy = .indexed) ∧
    ((at_ .adlMode 0x001000 [0xCB] [0x00]).phase = .afterCB) ∧
    ((at_ .adlMode 0x001000 [0xDD, 0xCB] [0x80]).runState = .running ∧ Holds (at_ .adlMode 0x001000 [0xDD, 0xCB] [0x80]) (at_ .adlMode 0x001000 [0xDD, 0xCB] [0x80]).cursor [0x80] ∧ (at_ .adlMode 0x001000 [0xDD, 0xCB] [0x80]).phase = .afterIndexCB ∧ (at_ .adlMode 0x001000 [0xDD, 0xCB] [0x80]).inbox = [] ∧ (at_ .adlMode 0x001000 [0xDD, 0xCB] [0x80]).d = none) ∧
    ((at_ .adlMode 0x001000 [0xDD, 0xCB, 0x80] [0x06]).runState = .running ∧ Holds (at_ .adlMode 0x001000 [0xDD, 0xCB, 0x80] [0x06]) (at_ .adlMode 0x001000 [0xDD, 0xCB, 0x80] [0x06]).cursor [0x06] ∧ (at_ .adlMode 0x001000 [0xDD, 0xCB, 0x80] [0x06]).phase = .afterIndexCB ∧ (at_ .adlMode 0x001000 [0xDD, 0xCB, 0x80] [0x06]).inbox = [] ∧ (at_ .adlMode 0x001000 [0xDD, 0xCB, 0x80] [0x06]).d ≠ none) ∧
    (indexOf (at_ .adlMode 0x001000 [0xDD, 0xCB, 0x80] [0x06]).regSet = some .ix) ∧
    (∃ f, formOf .srl (classify .cb 0x38) = some f) ∧
    ((0 : Fin 8) ≠ 6 ∧ (7 : Fin 8) ≠ 6) :=
  ⟨⟨rfl, ⟨rfl, rfl, trivial⟩, by decide, by decide⟩,
    ⟨rfl, ⟨rfl, rfl, trivial⟩, by decide, by decide⟩,
    ⟨rfl, ⟨rfl, rfl, trivial⟩, by decide, by decide, by decide⟩,
    by decide,
    ⟨rfl, ⟨rfl, rfl, trivial⟩, by decide, by decide, by decide⟩,
    ⟨rfl, ⟨rfl, rfl, trivial⟩, by decide, by decide, by decide⟩,
    by decide,
    ⟨_, rfl⟩,
    by decide⟩

-- States that meet the invariant, one for each phase
/-- The invariant of a running block in the middle of its first instruction, from facts that compute. -/
theorem inv_of_inProgress {s : State} (h : s.runState = .running ∧ s.fault = .none ∧ s.output = none ∧ s.emitted = [] ∧
    s.phase ≠ .complete ∧ 0 < s.remaining) (stream : s.stream.wf = true) (len : s.byteLength ≤ 6)
    (cur : s.cursor = s.startAddress + BitVec.ofNat 24 s.byteLength)
    (sfx : s.suffix ≠ .none → ∃ b ∈ s.rawBytes.take 2, isModeSelect b = true)
    (rs : s.regSet ≠ .hl → ∃ b ∈ s.rawBytes.take 2, b = 0xDD ∨ b = 0xFD) (shape : s.Shape)
    (latches : s.n = none ∧ s.w = none ∧ s.e = none) : s.Inv where
  stream_canonical := stream
  length_le := len
  cursor_eq := cur
  suffix_from_byte := sfx
  regSet_from_byte := rs
  complete_iff := by simp [h]
  output_last := by simp [h]
  records_ok := by simp [h]
  running_shape := fun _ => shape
  running_latches := fun _ _ => latches
  running_budget := fun _ => h.2.2.2.2.2
  done_budget := by simp [h]
  faulted_iff := by simp [h]

def atStart : State := at_ .adlMode 0x001000 [] [0x49, 0xDD, 0x21, 0x34, 0x12, 0x56]
theorem atStart_inv : atStart.Inv :=
  inv_of_inProgress (by decide) (by decide) (by decide) (by decide) (by decide) (by decide)
    ⟨rfl, rfl, rfl, rfl⟩ ⟨rfl, rfl, rfl⟩
def atSuffix : State := at_ .adlMode 0x001000 [0x49] [0x5B, 0x78]
theorem atSuffix_inv : atSuffix.Inv :=
  inv_of_inProgress (by decide) (by decide) (by decide) (by decide) (by decide) (by decide)
    ⟨rfl, by decide, rfl⟩ ⟨rfl, rfl, rfl⟩
def atDD : State := at_ .z80Mode 0xFFFFFF [0xDD] [0xED, 0x44]
theorem atDD_inv : atDD.Inv :=
  inv_of_inProgress (by decide) (by decide) (by decide) (by decide) (by decide) (by decide)
    ⟨rfl, rfl, rfl⟩ ⟨rfl, rfl, rfl⟩
def atFD : State := at_ .adlMode 0x001000 [0x40, 0xFD] [0xDD, 0x21]
theorem atFD_inv : atFD.Inv :=
  inv_of_inProgress (by decide) (by decide) (by decide) (by decide) (by decide) (by decide)
    ⟨rfl, rfl, rfl⟩ ⟨rfl, rfl, rfl⟩
def atCB : State := at_ .adlMode 0x001000 [0x49, 0xCB] [0x38]
theorem atCB_inv : atCB.Inv :=
  inv_of_inProgress (by decide) (by decide) (by decide) (by decide) (by decide) (by decide)
    ⟨rfl, rfl⟩ ⟨rfl, rfl, rfl⟩
def atED : State := at_ .z80Mode 0x001000 [0xED] [0xFF]
theorem atED_inv : atED.Inv :=
  inv_of_inProgress (by decide) (by decide) (by decide) (by decide) (by decide) (by decide)
    ⟨rfl, rfl, rfl⟩ ⟨rfl, rfl, rfl⟩
def atIndexCB : State := at_ .adlMode 0x001000 [0xDD, 0xCB] [0x06, 0x06]
theorem atIndexCB_inv : atIndexCB.Inv :=
  inv_of_inProgress (by decide) (by decide) (by decide) (by decide) (by decide) (by decide)
    ⟨by decide, rfl⟩ ⟨rfl, rfl, rfl⟩
def atIndexCBOpcode : State := at_ .adlMode 0x001000 [0xDD, 0xCB, 0x06] [0x00]
theorem atIndexCBOpcode_inv : atIndexCBOpcode.Inv :=
  inv_of_inProgress (by decide) (by decide) (by decide) (by decide) (by decide) (by decide)
    ⟨by decide, rfl⟩ ⟨rfl, rfl, rfl⟩
def atOperand : State := at_ .adlMode 0x001000 [0xDD, 0x36, 0x80] [0x55]
theorem atOperand_inv : atOperand.Inv :=
  inv_of_inProgress (by decide) (by decide) (by decide) (by decide) (by decide) (by decide)
    ⟨.base, 0x36, _, rfl, rfl, .inl rfl, rfl, rfl, by decide, by decide, by decide, by decide⟩ ⟨rfl, rfl, rfl⟩
def atWordByte : State := at_ .adlMode 0x001000 [0x21, 0x34, 0x12] [0x56]
theorem atWordByte_inv : atWordByte.Inv :=
  inv_of_inProgress (by decide) (by decide) (by decide) (by decide) (by decide) (by decide)
    ⟨.base, 0x21, _, rfl, rfl, .inl rfl, rfl, rfl, by decide, by decide, by decide, by decide⟩ ⟨rfl, rfl, rfl⟩
/-- After NOP, at the end of an instruction. -/
def atComplete : State := at_ .adlMode 0x001000 [0x00] [0x76]
theorem atComplete_inv : atComplete.Inv where
  stream_canonical := by decide
  length_le := by decide
  cursor_eq := by decide
  suffix_from_byte := by decide
  regSet_from_byte := by decide
  complete_iff := by decide
  output_last := by
    intro r h
    cases h
    rfl
  records_ok := by
    intro r h
    cases h with
    | head => exact ⟨rfl, by decide, by decide, by decide⟩
    | tail _ h => cases h
  running_shape := fun _ => Nat.le_refl 1
  running_latches := fun _ h => absurd rfl h
  running_budget := by decide
  done_budget := by decide
  faulted_iff := by decide
/-- A faulted block. -/
def atFault : State := after 1 (unreadableAt 0x001000 (adl [0x00]))

/-- A second mode-select, ED after an index prefix, and a second index prefix after two prefixes. -/
theorem test_hyp_PrefixOnlyEnding :
    (atSuffix.Inv ∧ atSuffix.inbox = [] ∧ atSuffix.runState = .running) ∧
    (atSuffix.phase = .afterModeSelect ∧ atSuffix.suffix ≠ .none ∧ isModeSelect 0x5B = true) ∧
    Holds atSuffix atSuffix.cursor [0x5B] ∧
    (atDD.Inv ∧ atDD.inbox = [] ∧ atDD.runState = .running) ∧
    (atDD.phase = .afterDD ∧ atDD.regSet ≠ .hl) ∧
    Holds atDD atDD.cursor [0xED] ∧
    (atFD.Inv ∧ atFD.inbox = [] ∧ atFD.runState = .running) ∧
    (atFD.phase = .afterFD ∧ atFD.regSet ≠ .hl) ∧
    Holds atFD atFD.cursor [0xDD] :=
  ⟨⟨atSuffix_inv, rfl, rfl⟩,
    by decide,
    ⟨rfl, rfl, trivial⟩,
    ⟨atDD_inv, rfl, rfl⟩,
    by decide,
    ⟨rfl, rfl, trivial⟩,
    ⟨atFD_inv, rfl, rfl⟩,
    by decide,
    ⟨rfl, rfl, trivial⟩⟩
/-- Each clause: each phase that classifies a byte, an unreadable byte, the displacement of an indexed CB, an operand. -/
theorem test_hyp_StepRunsTheDecodedRow :
    (atStart.inbox = [] ∧ atStart.runState = .running ∧ atStart.settled.phase ≠ .operands ∧ (atStart.settled.phase = .afterIndexCB → atStart.settled.d ≠ none)) ∧
    (atFD.inbox = [] ∧ atFD.runState = .running ∧ atFD.settled.phase ≠ .operands ∧ (atFD.settled.phase = .afterIndexCB → atFD.settled.d ≠ none)) ∧
    (atCB.inbox = [] ∧ atCB.runState = .running ∧ atCB.settled.phase ≠ .operands ∧ (atCB.settled.phase = .afterIndexCB → atCB.settled.d ≠ none)) ∧
    (atED.inbox = [] ∧ atED.runState = .running ∧ atED.settled.phase ≠ .operands ∧ (atED.settled.phase = .afterIndexCB → atED.settled.d ≠ none)) ∧
    (atIndexCBOpcode.inbox = [] ∧ atIndexCBOpcode.runState = .running ∧ atIndexCBOpcode.settled.phase ≠ .operands ∧ (atIndexCBOpcode.settled.phase = .afterIndexCB → atIndexCBOpcode.settled.d ≠ none)) ∧
    (atComplete.inbox = [] ∧ atComplete.runState = .running ∧ atComplete.settled.phase ≠ .operands ∧ (atComplete.settled.phase = .afterIndexCB → atComplete.settled.d ≠ none)) ∧
    Holds atStart atStart.cursor [0x49] ∧
    Holds atED atED.cursor [0xFF] ∧
    Holds atIndexCBOpcode atIndexCBOpcode.cursor [0x00] ∧
    Holds atComplete atComplete.cursor [0x76] ∧
    Failing (unreadableAt 0x001001 atComplete) ∧
    ((unreadableAt 0x001001 atComplete).settled.phase ≠ .operands) ∧
    (atIndexCB.phase = .afterIndexCB ∧ atIndexCB.d = none) ∧
    (atOperand.phase = .operands ∧ atOperand.page = some .base ∧ atOperand.op = some 0x36) ∧
    (atComplete.phase = .complete ∧ atStart.phase ≠ .complete) :=
  ⟨by decide,
    by decide,
    by decide,
    by decide,
    by decide,
    by decide,
    ⟨rfl, rfl, trivial⟩,
    ⟨rfl, rfl, trivial⟩,
    ⟨rfl, rfl, trivial⟩,
    ⟨rfl, rfl, trivial⟩,
    ⟨rfl, rfl⟩,
    by decide,
    by decide,
    by decide,
    by decide⟩
/-- A base row after a complete instruction, a CB, an ED and an indexed-CB row. -/
theorem test_hyp_RowsRunAtTheirOpcode :
    (atComplete.Inv ∧ atComplete.inbox = [] ∧ atComplete.runState = .running) ∧
    (atComplete.settled.nextInstr = .ok (some .halt)) ∧
    (∃ f, formOf .srl .halt = some f) ∧
    (atCB.Inv ∧ atCB.inbox = [] ∧ atCB.runState = .running) ∧
    (atCB.settled.nextInstr = .ok (some (.srlR .b))) ∧
    (atED.Inv ∧ atED.inbox = [] ∧ atED.runState = .running) ∧
    (atED.settled.nextInstr = .ok (some (.unrepEd 0xFF))) ∧
    (atIndexCBOpcode.Inv ∧ atIndexCBOpcode.inbox = [] ∧ atIndexCBOpcode.runState = .running) ∧
    (atIndexCBOpcode.settled.nextInstr = .ok (some (.unrepIxCb 0x00))) ∧
    (atIndexCBOpcode.settled.phase ≠ .operands ∧ atComplete.settled.phase ≠ .operands) :=
  ⟨⟨atComplete_inv, rfl, rfl⟩,
    rfl,
    ⟨_, rfl⟩,
    ⟨atCB_inv, rfl, rfl⟩,
    rfl,
    ⟨atED_inv, rfl, rfl⟩,
    rfl,
    ⟨atIndexCBOpcode_inv, rfl, rfl⟩,
    rfl,
    by decide⟩
/-- After NOP. -/
theorem test_hyp_InstructionStartResets :
    (atComplete.inbox = [] ∧ atComplete.runState = .running ∧ atComplete.phase = .complete) :=
  by decide
/-- START at both ends, COUNT 0, each flag; a start after power-on and one after a fault; a step of a run. -/
theorem test_hyp_RunStartSetsTheRun :
    ((asked 0xFFFFFF 0 none).runState ≠ .running ∧ (asked 0xFFFFFF 0 none).inbox = .start 0xFFFFFF 0 none :: [] ∧ 0xFFFFFF < 2 ^ 24 ∧ (0 : Int) ≤ 0) ∧
    ((asked 0 9 (some 0)).runState ≠ .running ∧ (asked 0 9 (some 0)).inbox = .start 0 9 (some 0) :: [] ∧ 0 < 2 ^ 24 ∧ (0 : Int) ≤ 9) ∧
    ((asked 0 9 (some 1)).runState ≠ .running ∧ (asked 0 9 (some 1)).inbox = .start 0 9 (some 1) :: []) ∧
    ({ atFault with inbox := [.start 0 9 none], stream := [] }.stream = (asked 0 9 none).stream ∧ { atFault with params := Params.default }.params = (asked 0 9 none).params) ∧
    (∃ t, step (asked 0 9 none) = .next t) ∧
    (∃ t, step { atFault with inbox := [.start 0 9 none], stream := [], params := Params.default } = .next t) ∧
    (∃ t, step atStart = .next t) ∧
    (atStart.runState = .running) :=
  ⟨by decide,
    by decide,
    by decide,
    by decide,
    ⟨_, rfl⟩,
    ⟨_, rfl⟩,
    ⟨_, rfl⟩,
    by decide⟩
/-- The power-on state, and the same with another stream. -/
theorem test_hyp_PowerOnHoldsNoValue :
    (State.reset.runState = .idle ∧ State.reset.inbox = []) ∧
    ({ State.reset with stream := [(5, 7)] }.runState = .idle) ∧
    (Instr.wellFormed .nop = true) :=
  ⟨by decide,
    by decide,
    by decide⟩
/-- A running block, a done one and a faulted one. -/
theorem test_hyp_HostReadsAfterARun :
    (atStart.runState = .running) ∧
    ((after 1 (asked 0 0 none)).runState = .done) ∧
    (atFault.runState = .faulted) :=
  ⟨by decide,
    by decide,
    by decide⟩
/-- A change of the parameters; a byte at both ends of the address space, 0 among the values; another address. -/
theorem test_hyp_HostRequestsOutsideARun :
    ({ State.reset with inbox := [.configure Params.default] }.runState ≠ .running ∧ { State.reset with inbox := [.configure Params.default] }.inbox = .configure Params.default :: []) ∧
    ({ atFault with inbox := [.setStream 0xFFFFFF 0] }.runState ≠ .running ∧ { atFault with inbox := [.setStream 0xFFFFFF 0] }.stream.wf = true ∧ { atFault with inbox := [.setStream 0xFFFFFF 0] }.inbox = .setStream 0xFFFFFF 0 :: []) ∧
    ({ State.reset with inbox := [.setStream 0 0x21] }.runState ≠ .running ∧ { State.reset with inbox := [.setStream 0 0x21] }.stream.wf = true ∧ { State.reset with inbox := [.setStream 0 0x21] }.inbox = .setStream 0 0x21 :: [] ∧ (1 : Addr) ≠ 0) :=
  ⟨by decide,
    by decide,
    by decide⟩
/-- During a run each request; outside one a START of 2^24, a COUNT of -1 and a flag of 2. -/
theorem test_hyp_HostRequestsRefused :
    ({ adl [] with inbox := [.start 0 1 none] }.runState = .running ∧ { adl [] with inbox := [.start 0 1 none] }.inbox = .start 0 1 none :: []) ∧
    ({ adl [] with inbox := [.configure Params.default] }.runState = .running ∧ { adl [] with inbox := [.configure Params.default] }.inbox = .configure Params.default :: []) ∧
    ({ adl [] with inbox := [.setStream 0 1] }.runState = .running ∧ { adl [] with inbox := [.setStream 0 1] }.inbox = .setStream 0 1 :: []) ∧
    ((asked 0x1000000 1 none).runState ≠ .running ∧ (asked 0x1000000 1 none).inbox = .start 0x1000000 1 none :: [] ∧ 2 ^ 24 ≤ 0x1000000) ∧
    ((asked 0 (-1) none).runState ≠ .running ∧ (asked 0 (-1) none).inbox = .start 0 (-1) none :: [] ∧ (-1 : Int) < 0) ∧
    ((asked 0 1 (some 2)).runState ≠ .running ∧ (asked 0 1 (some 2)).inbox = .start 0 1 (some 2) :: [] ∧ ∃ n, some 2 = some n ∧ 2 ≤ n) :=
  ⟨by decide,
    by decide,
    by decide,
    by decide,
    by decide,
    ⟨by decide, rfl, 2, rfl, by decide⟩⟩
/-- A row with each kind of fault; a short word in front of an unreadable address. -/
theorem test_hyp_EveryRowFaultsOnAnUnreadableByte :
    (Instr.wellFormed .prefixOnly = true) ∧
    Failing (unreadableAt 0x001000 (adl [0x00])) ∧
    (Instr.wellFormed .jpNn = true ∧ Instr.wellFormed (.ldRrMem .sp) = true) ∧
    (∃ f, formOf .srl .jpNn = some f ∧ f.recipe = .w ∧ f.page = .base) ∧
    Ready (unreadableAt 0x001003 (startAt .z80Mode 0x001000 [0xC3, 0x34, 0x12])) .base [0xC3, 0x34, 0x12] ∧
    (¬ LongWord (unreadableAt 0x001003 (startAt .z80Mode 0x001000 [0xC3, 0x34, 0x12]))) ∧
    (readable (unreadableAt 0x001003 (startAt .z80Mode 0x001000 [0xC3, 0x34, 0x12])).params ((unreadableAt 0x001003 (startAt .z80Mode 0x001000 [0xC3, 0x34, 0x12])).cursor + 3) = false) ∧
    (Ready (unreadableAt 0x001004 (at_ .z80Mode 0x001000 [0xED] [0x7B, 0x34, 0x12])) .ed [0x7B, 0x34, 0x12] ∧ ¬ LongWord (unreadableAt 0x001004 (at_ .z80Mode 0x001000 [0xED] [0x7B, 0x34, 0x12])) ∧ readable (unreadableAt 0x001004 (at_ .z80Mode 0x001000 [0xED] [0x7B, 0x34, 0x12])).params ((unreadableAt 0x001004 (at_ .z80Mode 0x001000 [0xED] [0x7B, 0x34, 0x12])).cursor + 3) = false) :=
  ⟨by decide,
    ⟨rfl, rfl⟩,
    by decide,
    ⟨_, rfl, rfl, rfl⟩,
    ⟨⟨rfl, by decide, rfl⟩, rfl, rfl, rfl, rfl, rfl, rfl, trivial⟩,
    fun h => absurd ((wordIsLong_iff _).2 h) (by decide),
    by decide,
    ⟨⟨⟨rfl, by decide, rfl⟩, rfl, rfl, rfl, rfl, rfl, rfl, trivial⟩, fun h => absurd ((wordIsLong_iff _).2 h) (by decide), rfl⟩⟩
/-- At the start of an instruction whose first byte is unreadable. -/
def atUnreadable : State := unreadableAt 0x001000 (adl [0x00])
theorem atUnreadable_inv : atUnreadable.Inv :=
  inv_of_inProgress (by decide) (by decide) (by decide) (by decide) (by decide) (by decide)
    ⟨rfl, rfl, rfl, rfl⟩ ⟨rfl, rfl, rfl⟩

/-- An unreadable first byte. -/
theorem test_hyp_StreamFaultEndsTheRun :
    (atUnreadable.Inv ∧ atUnreadable.inbox = [] ∧ atUnreadable.runState = .running) ∧
    (readable atUnreadable.params atUnreadable.cursor = false) :=
  ⟨⟨atUnreadable_inv, rfl, rfl⟩,
    by decide⟩
/-- A step of each kind. -/
theorem test_hyp_RunStateTransitions :
    (∃ t, step State.reset = .next t) ∧
    (∃ t, step (asked 0 0 none) = .next t) ∧
    (∃ t, step { adl [0x00] with remaining := 1 } = .next t) ∧
    (∃ t, step atUnreadable = .next t) ∧
    (∃ t, step atStart = .next t) :=
  ⟨⟨_, rfl⟩,
    ⟨_, rfl⟩,
    ⟨_, rfl⟩,
    ⟨_, rfl⟩,
    ⟨_, rfl⟩⟩
/-- A step that accepts its byte and one that does not. -/
theorem test_hyp_FrameOfAStep :
    (atStart.inbox = [] ∧ atSuffix.inbox = []) ∧
    (∃ t, step atStart = .next t) ∧
    (∃ t, step atSuffix = .next t) :=
  ⟨by decide,
    ⟨_, rfl⟩,
    ⟨_, rfl⟩⟩
/-- With a suffix and with a register set. -/
theorem test_hyp_PrefixRegistersWrittenOnce :
    (atFD.Inv ∧ atFD.inbox = [] ∧ atFD.runState = .running) ∧
    (atFD.phase ≠ .complete ∧ atFD.suffix ≠ .none ∧ atFD.regSet ≠ .hl) ∧
    (∃ t, step atFD = .next t) :=
  ⟨⟨atFD_inv, rfl, rfl⟩,
    by decide,
    ⟨_, rfl⟩⟩
/-- A step that completes and one that does not. -/
theorem test_hyp_BudgetCountsInstructionBytes :
    (atOperand.Inv ∧ atOperand.inbox = [] ∧ atOperand.runState = .running) ∧
    (∃ t, step atOperand = .next t) ∧
    (atStart.Inv ∧ atStart.inbox = [] ∧ atStart.runState = .running) ∧
    (∃ t, step atStart = .next t) :=
  ⟨⟨atOperand_inv, rfl, rfl⟩,
    ⟨_, rfl⟩,
    ⟨atStart_inv, rfl, rfl⟩,
    ⟨_, rfl⟩⟩
/-- A full record with a displacement and an immediate, one with a word, an unrepresented one of either page, a prefix-only one. -/
theorem test_hyp_RecordLengthOfEveryStep :
    (atOperand.Inv ∧ atOperand.inbox = [] ∧ atOperand.runState = .running) ∧
    (∃ t r, step atOperand = .next t ∧ t.output = some r) ∧
    (atWordByte.Inv ∧ atWordByte.inbox = [] ∧ atWordByte.runState = .running) ∧
    (∃ t r, step atWordByte = .next t ∧ t.output = some r) ∧
    (atED.Inv ∧ atED.inbox = [] ∧ atED.runState = .running) ∧
    (∃ t r, step atED = .next t ∧ t.output = some r) ∧
    (atIndexCBOpcode.Inv ∧ atIndexCBOpcode.inbox = [] ∧ atIndexCBOpcode.runState = .running) ∧
    (∃ t r, step atIndexCBOpcode = .next t ∧ t.output = some r) ∧
    (atSuffix.Inv ∧ atSuffix.inbox = [] ∧ atSuffix.runState = .running) ∧
    (∃ t r, step atSuffix = .next t ∧ t.output = some r) :=
  ⟨⟨atOperand_inv, rfl, rfl⟩,
    ⟨_, _, rfl, rfl⟩,
    ⟨atWordByte_inv, rfl, rfl⟩,
    ⟨_, _, rfl, rfl⟩,
    ⟨atED_inv, rfl, rfl⟩,
    ⟨_, _, rfl, rfl⟩,
    ⟨atIndexCBOpcode_inv, rfl, rfl⟩,
    ⟨_, _, rfl, rfl⟩,
    ⟨atSuffix_inv, rfl, rfl⟩,
    ⟨_, _, rfl, rfl⟩⟩
theorem atOperand_contiguous : atOperand.Contiguous := ⟨.nil, fun r h => by cases h⟩
theorem atComplete_contiguous : atComplete.Contiguous := ⟨.singleton _, fun r h => by cases h; rfl⟩

/-- The first record, and a record before the instruction in progress. -/
theorem test_hyp_RecordsAreContiguous :
    atOperand.Inv ∧
    atOperand.Contiguous ∧
    (∃ t, step atOperand = .next t) ∧
    atComplete.Inv ∧
    atComplete.Contiguous ∧
    (∃ t, step atComplete = .next t) :=
  ⟨atOperand_inv,
    atOperand_contiguous,
    ⟨_, rfl⟩,
    atComplete_inv,
    atComplete_contiguous,
    ⟨_, rfl⟩⟩
/-- In each phase. -/
theorem test_hyp_StepKeepsTheInvariant :
    atStart.Inv ∧
    (∃ t, step atStart = .next t) ∧
    atSuffix.Inv ∧
    (∃ t, step atSuffix = .next t) ∧
    atDD.Inv ∧
    (∃ t, step atDD = .next t) ∧
    atFD.Inv ∧
    (∃ t, step atFD = .next t) ∧
    atCB.Inv ∧
    (∃ t, step atCB = .next t) ∧
    atED.Inv ∧
    (∃ t, step atED = .next t) ∧
    atIndexCB.Inv ∧
    (∃ t, step atIndexCB = .next t) ∧
    atIndexCBOpcode.Inv ∧
    (∃ t, step atIndexCBOpcode = .next t) ∧
    atOperand.Inv ∧
    (∃ t, step atOperand = .next t) ∧
    atWordByte.Inv ∧
    (∃ t, step atWordByte = .next t) ∧
    atComplete.Inv ∧
    (∃ t, step atComplete = .next t) ∧
    atUnreadable.Inv ∧
    (∃ t, step atUnreadable = .next t) :=
  ⟨atStart_inv,
    ⟨_, rfl⟩,
    atSuffix_inv,
    ⟨_, rfl⟩,
    atDD_inv,
    ⟨_, rfl⟩,
    atFD_inv,
    ⟨_, rfl⟩,
    atCB_inv,
    ⟨_, rfl⟩,
    atED_inv,
    ⟨_, rfl⟩,
    atIndexCB_inv,
    ⟨_, rfl⟩,
    atIndexCBOpcode_inv,
    ⟨_, rfl⟩,
    atOperand_inv,
    ⟨_, rfl⟩,
    atWordByte_inv,
    ⟨_, rfl⟩,
    atComplete_inv,
    ⟨_, rfl⟩,
    atUnreadable_inv,
    ⟨_, rfl⟩⟩
/-- In each phase. -/
theorem test_hyp_StepNeverStopsARun :
    (atStart.Inv ∧ atStart.inbox = []) ∧
    (atOperand.Inv ∧ atOperand.inbox = []) ∧
    (atComplete.Inv ∧ atComplete.inbox = []) ∧
    (atUnreadable.Inv ∧ atUnreadable.inbox = []) :=
  ⟨⟨atStart_inv, rfl⟩,
    ⟨atOperand_inv, rfl⟩,
    ⟨atComplete_inv, rfl⟩,
    ⟨atUnreadable_inv, rfl⟩⟩
/-- A stream that differs elsewhere. -/
theorem test_hyp_StepDependsOnOneByte :
    (atStart.inbox = [] ∧ memRead [(0x001000, 0x49)] atStart.cursor.toNat = memRead atStart.stream atStart.cursor.toNat ∧ ([(0x001000, 0x49)] : Memory) ≠ atStart.stream) :=
  by decide
/-- At the first instruction and after one. -/
theorem test_hyp_InstructionTakesAtMostSixReads :
    (atStart.Inv ∧ atStart.inbox = [] ∧ atStart.runState = .running) ∧
    (atStart.phase = .noPrefix) ∧
    (atComplete.Inv ∧ atComplete.inbox = [] ∧ atComplete.runState = .running) ∧
    (atComplete.phase = .complete) :=
  ⟨⟨atStart_inv, rfl, rfl⟩,
    by decide,
    ⟨atComplete_inv, rfl, rfl⟩,
    by decide⟩
/-- At the first instruction and after one. -/
theorem test_hyp_EveryRunTerminates :
    (atStart.Inv ∧ atStart.inbox = [] ∧ atStart.runState = .running) ∧
    (atStart.phase = .noPrefix) ∧
    (atComplete.Inv ∧ atComplete.inbox = [] ∧ atComplete.runState = .running) ∧
    (atComplete.phase = .complete) :=
  ⟨⟨atStart_inv, rfl, rfl⟩,
    by decide,
    ⟨atComplete_inv, rfl, rfl⟩,
    by decide⟩
def atChain : State := adl [0xDD, 0xED]
theorem atChain_inv : atChain.Inv :=
  inv_of_inProgress (by decide) (by decide) (by decide) (by decide) (by decide) (by decide)
    ⟨rfl, rfl, rfl, rfl⟩ ⟨rfl, rfl, rfl⟩

/-- A chain that ends at a row with operand bytes after it, and one that ends prefix-only. -/
theorem test_hyp_StepsFollowThePrefixChain :
    (atStart.Inv ∧ atStart.inbox = [] ∧ atStart.runState = .running) ∧
    (atStart.phase = .noPrefix) ∧
    Holds atStart atStart.cursor [0x49, 0xDD, 0x21, 0x34] ∧
    decodeChain atStart.params.ddcbPolicy (.base false .hl) [0x49, 0xDD, 0x21, 0x34] = .ok (.base true .ix, .ldIxNn, [0x34]) ∧
    (atChain.Inv ∧ atChain.inbox = [] ∧ atChain.runState = .running) ∧
    (atChain.phase = .noPrefix) ∧
    Holds atChain atChain.cursor [0xDD, 0xED] ∧
    decodeChain atChain.params.ddcbPolicy (.base false .hl) [0xDD, 0xED] = .ok (.base false .ix, .prefixOnly, [0xED]) :=
  ⟨⟨atStart_inv, rfl, rfl⟩,
    by decide,
    ⟨rfl, rfl, rfl, rfl, rfl, rfl, rfl, rfl, trivial⟩,
    rfl,
    ⟨atChain_inv, rfl, rfl⟩,
    by decide,
    ⟨rfl, rfl, rfl, rfl, trivial⟩,
    rfl⟩
/-- Either side of the last clause. -/
theorem test_hyp_EveryByteSelectsOneRow :
    (classify (.base true .hl) 0x49 = .prefixOnly ∧ classify (.base false .hl) 0x49 ≠ .prefixOnly) :=
  by decide
/-- A base row, an indexed-CB row, a prefix row. -/
theorem test_hyp_DecodeOfEncodeIsTheRow :
    (Instr.wellFormed .halt = true ∧ (home .halt).admits (.base true .hl) = true ∧ opcode .halt = some 0x76) ∧
    (Instr.wellFormed (.bitBIxd 7) = true ∧ formOf .srl (.bitBIxd 7) ≠ none ∧ formOf .srl .halt ≠ none) ∧
    (∀ x, home .halt ≠ .indexCb x) ∧
    (Instr.wellFormed (.modeSelect .lil) = true ∧ (home (.modeSelect .lil)).admits (.base false .ix) = true ∧ opcode (.modeSelect .lil) = some 0x5B) :=
  ⟨by decide,
    by decide,
    fun _ => nofun,
    by decide⟩
/-- A byte of the page that is no prefix. -/
theorem test_hyp_PageCounts :
    (home (classify (.base false .hl) 0x00) = .base ∧ RegSet.iy ≠ .hl) :=
  by decide
/-- Two operands of LD (IX-128),&55; an unrepresented row; a prefix-only step. -/
theorem test_hyp_TextOfAFullInstruction :
    (∃ f kw operands ts, formOf .srl .ldIxdN = some f ∧ f.body = some (kw, operands) ∧ renderOperands { atOperand with n := some 0x55 } operands = some ts) ∧
    (∃ f, formOf .srl (.unrepEd 0xFF) = some f ∧ f.body = none) ∧
    (∃ t, exec .prefixOnly atSuffix = .next t ∧ t.phase = .complete ∧ atSuffix.phase ≠ .complete) :=
  ⟨⟨_, _, _, _, rfl, rfl, rfl⟩,
    ⟨_, rfl, rfl⟩,
    ⟨_, rfl, rfl, by decide⟩⟩
/-- The ends of the range, -1 and 0. -/
theorem test_hyp_DisplacementText :
    (-128 ≤ (-128 : Int) ∧ (-128 : Int) ≤ 127 ∧ { atOperand with d := some (-128) }.d = some (-128)) ∧
    (-128 ≤ (-1 : Int) ∧ (-1 : Int) ≤ 127 ∧ { atOperand with d := some (-1) }.d = some (-1)) ∧
    (-128 ≤ (0 : Int) ∧ (0 : Int) ≤ 127 ∧ { atOperand with d := some (0) }.d = some (0)) ∧
    (-128 ≤ (127 : Int) ∧ (127 : Int) ≤ 127 ∧ { atOperand with d := some (127) }.d = some (127)) :=
  ⟨by decide,
    by decide,
    by decide,
    by decide⟩
/-- The read of NOP that completes it. -/
theorem test_hyp_IndexInsensitiveRowsRecordForm301 :
    (indexInsensitive 0x00 = true ∧ (at_ .adlMode 0x001000 [0xDD] [0x00]).phase ≠ .complete) ∧
    (∃ t, exec (perIndex .ix (.baseIxIgnored 0x00) (.baseIyIgnored 0x00)) (at_ .adlMode 0x001000 [0xDD] [0x00]) = .next t ∧ t.phase = .complete) :=
  ⟨by decide,
    ⟨_, rfl, rfl⟩⟩
/-- A row and a step at an unreadable byte; a done and a faulted block. -/
theorem test_hyp_StreamFaultKeepsTheOtherRegisters :
    (Instr.wellFormed .nop = true) ∧
    (atUnreadable.Inv ∧ atUnreadable.inbox = [] ∧ atUnreadable.runState = .running) ∧
    Failing atUnreadable ∧
    ((after 1 (asked 0 0 none)).inbox = [] ∧ (after 1 (asked 0 0 none)).runState = .done ∧ atFault.inbox = [] ∧ atFault.runState = .faulted) :=
  ⟨by decide,
    ⟨atUnreadable_inv, rfl, rfl⟩,
    ⟨rfl, rfl⟩,
    by decide⟩

end Sys2Proof.Tests
end

namespace Sys2Proof

-- The table of the row a byte selects, page by page

/-- A byte that is none of the prefixes selects a base row. -/
theorem home_classifyBase : ∀ b : Byte, isModeSelect b = false → b ≠ 0xDD → b ≠ 0xFD → b ≠ 0xED → b ≠ 0xCB →
    home (classifyBase b) = .base := by
  decide

theorem home_classifyIndexed (x : IndexReg) (b : Byte) : home (classifyIndexed x b) = .baseIndexed x := by
  cases x <;> (unfold classifyIndexed; dsimp only [perIndex]; repeat' split) <;> rfl

theorem home_classifyCb (b : Byte) : home (classifyCb b) = .cb := by
  unfold classifyCb
  dsimp only
  repeat' split
  all_goals rfl

theorem home_classifyIndexCb (x : IndexReg) (b : Byte) : home (classifyIndexCb x b) = .indexCb x := by
  cases x <;> (unfold classifyIndexCb; dsimp only [perIndex]; repeat' split) <;> rfl

theorem home_classifyEdBlock (b : Byte) : home (classifyEdBlock b) = .ed := by
  unfold classifyEdBlock
  split <;> rfl

theorem home_classifyEd (b : Byte) : home (classifyEd b) = .ed := by
  unfold classifyEd
  dsimp only
  repeat' split
  case h_16 => exact home_classifyEdBlock b
  all_goals rfl

/-- A mode-select byte names a suffix (R107, R114). -/
theorem suffixOf_ne_none {b : Byte} (h : isModeSelect b = true) : suffixOf (fieldY b) ≠ .none := by
  revert b
  decide

/-- The table of the rows a register set selects in base-page position. -/
def baseHome : RegSet → Home
  | .hl => .base
  | .ix => .baseIndexed .ix
  | .iy => .baseIndexed .iy

/-- What a byte selects in base-page position (R111 to R117): a mode-select, DD or FD, ED, CB, or a row of the page. -/
theorem classify_base (ms : Bool) (rs : RegSet) (b : Byte) :
    (isModeSelect b = true ∧ classify (.base ms rs) b = if ms then .prefixOnly else .modeSelect (suffixOf (fieldY b))) ∨
    ((b = 0xDD ∨ b = 0xFD) ∧
      classify (.base ms rs) b = if rs ≠ .hl then .prefixOnly else .indexPrefix (if b = 0xDD then .ix else .iy)) ∨
    (b = 0xED ∧ classify (.base ms rs) b = if rs ≠ .hl then .prefixOnly else .edPrefix) ∨
    (b = 0xCB ∧ classify (.base ms rs) b = .cbPrefix) ∨
    (isModeSelect b = false ∧ home (classify (.base ms rs) b) = baseHome rs) := by
  simp only [classify, classifyBasePosition]
  by_cases hms : isModeSelect b = true
  · exact .inl ⟨hms, if_pos hms⟩
  by_cases hidx : b = 0xDD ∨ b = 0xFD
  · exact .inr (.inl ⟨hidx, by rw [if_neg hms, if_pos hidx]⟩)
  by_cases hed : b = 0xED
  · exact .inr (.inr (.inl ⟨hed, by rw [if_neg hms, if_neg hidx, if_pos hed]⟩))
  by_cases hcb : b = 0xCB
  · exact .inr (.inr (.inr (.inl ⟨hcb, by rw [if_neg hms, if_neg hidx, if_neg hed, if_pos hcb]⟩)))
  refine .inr (.inr (.inr (.inr ⟨by simpa using hms, ?_⟩)))
  rw [if_neg hms, if_neg hidx, if_neg hed, if_neg hcb]
  obtain ⟨hdd, hfd⟩ := not_or.mp hidx
  cases rs
  · exact home_classifyBase b (by simpa using hms) hdd hfd hed hcb
  · exact home_classifyIndexed .ix b
  · exact home_classifyIndexed .iy b

/-- The row a byte selects stands in a table of the context it is read in (R110, R111). -/
theorem home_classify_admits (c : Ctx) (b : Byte) : (home (classify c b)).admits c = true := by
  cases c with
  | base ms rs =>
    rcases classify_base ms rs b with ⟨-, h⟩ | ⟨-, h⟩ | ⟨-, h⟩ | ⟨-, h⟩ | ⟨-, h⟩
    · cases ms <;> simp [h, home, Home.admits]
    · cases rs <;> simp [h, home, Home.admits]
    · cases rs <;> simp [h, home, Home.admits]
    · simp [h, home, Home.admits]
    · cases rs <;> simp [h, baseHome, Home.admits]
  | cb => simp [classify, home_classifyCb, Home.admits]
  | indexCb x => simp [classify, home_classifyIndexCb, Home.admits]
  | ed => simp [classify, home_classifyEd, Home.admits]

/-- A mode-select is selected by its own bytes, and only where none was taken (R114). -/
theorem classify_eq_modeSelect {ms : Bool} {rs : RegSet} {b : Byte} {sfx : Suffix}
    (h : classify (.base ms rs) b = .modeSelect sfx) : ms = false ∧ isModeSelect b = true ∧ sfx ≠ .none := by
  rcases classify_base ms rs b with ⟨hms, hc⟩ | ⟨-, hc⟩ | ⟨-, hc⟩ | ⟨-, hc⟩ | ⟨-, hc⟩ <;> rw [h] at hc
  · cases ms with
    | false =>
      injection hc with hc
      exact ⟨rfl, hms, by rw [hc]; exact suffixOf_ne_none hms⟩
    | true => cases hc
  · split at hc <;> cases hc
  · split at hc <;> cases hc
  · cases hc
  · cases rs <;> cases hc

/-- DD and FD are taken only where neither was (R115). -/
theorem classify_eq_indexPrefix {ms : Bool} {rs : RegSet} {b : Byte} {x : IndexReg}
    (h : classify (.base ms rs) b = .indexPrefix x) : rs = .hl ∧ (b = 0xDD ∨ b = 0xFD) := by
  rcases classify_base ms rs b with ⟨-, hc⟩ | ⟨hb, hc⟩ | ⟨-, hc⟩ | ⟨-, hc⟩ | ⟨-, hc⟩ <;> rw [h] at hc
  · cases ms <;> cases hc
  · split at hc
    · cases hc
    · rename_i hrs
      exact ⟨not_not.mp hrs, hb⟩
  · split at hc <;> cases hc
  · cases hc
  · cases rs <;> cases hc

/-- ED is taken only with register set HL (R116). -/
theorem classify_eq_edPrefix {ms : Bool} {rs : RegSet} {b : Byte} (h : classify (.base ms rs) b = .edPrefix) : rs = .hl := by
  have hadm := home_classify_admits (.base ms rs) b
  rw [h] at hadm
  simpa [home, Home.admits] using hadm

/-- An instruction ends as PrefixOnly only after one of the prefixes (R113). -/
theorem classify_eq_prefixOnly {ms : Bool} {rs : RegSet} {b : Byte} (h : classify (.base ms rs) b = .prefixOnly) :
    ms = true ∨ rs ≠ .hl := by
  have hadm := home_classify_admits (.base ms rs) b
  rw [h] at hadm
  simpa [home, Home.admits] using hadm

end Sys2Proof

namespace Sys2Proof.Machine

open Sys2Proof.Claims

/-- A form fits a page: it names it, fetches operands on the base and ED pages only, and has a keyword if it has a text. -/
def Form.fits (f : Form) (p : Page) : Bool :=
  f.page == p && (p == .base || p == .ed || f.recipe == .none) && f.body.all fun text => text.1 != ""

theorem Form.fits_iff {f : Form} {p : Page} :
    f.fits p = true ↔ f.page = p ∧ (p = .base ∨ p = .ed ∨ f.recipe = .none) ∧
      ∀ kw operands, f.body = some (kw, operands) → kw ≠ "" := by
  cases hb : f.body <;> simp [Form.fits, hb, or_assoc, and_assoc, Prod.ext_iff]

theorem baseForm_fits {i : Instr} {f : Form} (h : baseForm i = some f) : f.fits .base = true := by
  cases i
  all_goals cases h <;> rfl

theorem formIgnored_fits {op : Byte} {f : Form} (h : formIgnored op = some f) : f.fits .base = true := by
  obtain ⟨g, hg, rfl⟩ := Option.map_eq_some_iff.mp h
  exact baseForm_fits (f := g) hg

/-- Every row's form fits the page of the row's table (R120, R123). -/
theorem formOf_fits {k : CbY7Mnemonic} {i : Instr} {f : Form} (h : formOf k i = some f) :
    f.fits (pageOf (home i)) = true := by
  cases i
  case baseIxIgnored op => exact formIgnored_fits h
  case baseIyIgnored op => exact formIgnored_fits h
  case srlR | srlIxd | srlIyd => cases h; cases k <;> rfl
  case aluAIxHalf g _ | aluAIyHalf g _ | aluAIxd g | aluAIyd g => cases h; cases g <;> rfl
  all_goals cases h <;> rfl

-- What a read does

/-- The page of the rows a context selects. -/
def pageIn : Ctx → Page
  | .base _ _ => .base
  | .cb => .cb
  | .indexCb _ => .indexCb
  | .ed => .ed

/-- The state in which the record of a row can be made, its last byte `b` accepted: the opcode byte of a row without
operands, or the last operand byte, with some values latched. -/
inductive LastByte (f : Form) (s : State) (b : Byte) : State → Prop
  | opcode (hp : s.phase ≠ .operands) : LastByte f s b (s.opcodeTaken f.page b)
  | operand (hp : s.phase = .operands) (d : Option Int) (n : Option Byte) (w e : Option Addr) :
    LastByte f s b { s.accept b with d := d, n := n, w := w, e := e }

/-- The state that one of the prefixes leaves: the byte accepted, with this suffix, register set and phase (R113 to R117). -/
def State.prefixTaken (s : State) (b : Byte) (sfx : Suffix) (rs : RegSet) (p : Phase) : State :=
  { s.accept b with suffix := sfx, regSet := rs, phase := p }

@[simp] theorem State.prefixTaken_d (s : State) (b : Byte) (sfx : Suffix) (rs : RegSet) (p : Phase) :
    (s.prefixTaken b sfx rs p).d = s.d := rfl

@[simp] theorem State.prefixTaken_prefixCount (s : State) (b : Byte) (p : Phase) :
    (s.prefixTaken b s.suffix s.regSet p).prefixCount = s.prefixCount := rfl

/-- A byte `b` of row `i` that is accepted and leaves the instruction open: one of the prefixes (R113 to R117), the opcode
byte of a row with operands, or an operand byte with more to come (R120). -/
inductive OpenByte (s : State) (b : Byte) : Instr → State → Prop
  | modeSelect (sfx : Suffix) : OpenByte s b (.modeSelect sfx) (s.prefixTaken b sfx s.regSet .afterModeSelect)
  | indexPrefix (x : IndexReg) :
    OpenByte s b (.indexPrefix x) (s.prefixTaken b s.suffix (regSetOf x) (phaseAfterIndex x))
  | edPrefix : OpenByte s b .edPrefix (s.prefixTaken b s.suffix s.regSet .afterED)
  | cbPrefix (hp : s.phase ≠ .afterIndexCB) : OpenByte s b .cbPrefix (s.prefixTaken b s.suffix s.regSet .afterCB)
  | indexCbPrefix (hp : s.phase ≠ .afterIndexCB) (hrs : s.regSet ≠ .hl) :
    OpenByte s b .cbPrefix (s.prefixTaken b s.suffix s.regSet .afterIndexCB)
  | displacement (hp : s.phase = .afterIndexCB) : OpenByte s b .cbPrefix (s.latchD b)
  | opcode {i : Instr} {f : Form} (hf : formOf s.params.cbY7Mnemonic i = some f) (hp : s.phase ≠ .operands)
    (hr : f.recipe ≠ .none) : OpenByte s b i (s.opcodeTaken f.page b)
  | operandD {i : Instr} {f : Form} (hf : formOf s.params.cbY7Mnemonic i = some f) (hp : s.phase = .operands)
    (hr : f.recipe = .dn) (hc : s.operandCount = 0) : OpenByte s b i (s.latchD b)
  | operandW {i : Instr} {f : Form} (hf : formOf s.params.cbY7Mnemonic i = some f) (hp : s.phase = .operands)
    (hr : f.recipe = .w) (hc : s.operandCount = 0 ∨ s.operandCount = 1 ∧ s.wordIsLong = true) : OpenByte s b i (s.accept b)

/-- What the read of byte `b` by row `i` leaves: an open instruction, or a completed one; the PrefixOnly ending accepts
nothing (R113). -/
inductive ReadsTo (s : State) (b : Byte) (i : Instr) : State → Prop
  | goesOn {u : State} (h : OpenByte s b i u) : ReadsTo s b i u
  | completes {f : Form} {u t : State} (hf : formOf s.params.cbY7Mnemonic i = some f) (hu : LastByte f s b u)
    (h : complete f u = .next t) : ReadsTo s b i t
  | endsPrefixOnly (hi : i = .prefixOnly) : ReadsTo s b i (s.finish .prefixOnly none "")

/-- A byte of a row that has a form. -/
theorem readsTo_of_runForm {i : Instr} {f : Form} {s t : State} {b : Byte} (hf : formOf s.params.cbY7Mnemonic i = some f)
    (h : (s.phase ≠ .operands ∧ opcodeRead f s b = .next t) ∨ (s.phase = .operands ∧ operandRead f s b = .next t)) :
    ReadsTo s b i t := by
  rcases h with ⟨hp, h⟩ | ⟨hp, h⟩
  · rcases opcodeRead_next h with ⟨-, hc⟩ | ⟨hr, rfl⟩
    · exact .completes hf (.opcode hp) hc
    · exact .goesOn (.opcode hf hp hr)
  · rcases operandRead_next h with ⟨-, hc⟩ | ⟨-, hc⟩ | ⟨-, hc⟩ | ⟨-, hc⟩ | ⟨hr, h0, rfl⟩ | ⟨-, -, hc⟩ | ⟨hr, hcount, rfl⟩ |
      ⟨-, -, w, hc⟩
    · exact .completes hf (.operand hp s.d s.n s.w s.e) hc
    · exact .completes hf (.operand hp s.d (some b) s.w s.e) hc
    · exact .completes hf (.operand hp (some (sext8 b)) s.n s.w s.e) hc
    · exact .completes hf (.operand hp s.d s.n s.w (some (relativeTarget (s.cursor + 1) b))) hc
    · exact .goesOn (.operandD hf hp hr h0)
    · exact .completes hf (.operand hp s.d (some b) s.w s.e) hc
    · exact .goesOn (.operandW hf hp hr hcount)
    · exact .completes hf (.operand hp s.d s.n (some w) s.e) hc

/-- What a meaning that makes one read can do in a run: the stream fault, or the read of the byte at the cursor. -/
theorem readsTo_of_withRead {i : Instr} {s t : State} {k : Byte → Host.Outcome State Fault Refusal}
    (hrun : s.runState = .running) (h : withRead s k = .next t) (hk : ∀ b, k b = .next t → ReadsTo s b i t) :
    (s.read = none ∧ t = s.raiseStreamFault) ∨ ∃ b, s.read = some b ∧ ReadsTo s b i t := by
  rcases withRead_next h with ⟨hidle, -⟩ | ⟨-, hfault | ⟨b, hb, hnext⟩⟩
  · exact absurd hrun hidle
  · exact .inl hfault
  · exact .inr ⟨b, hb, hk b hnext⟩

/-- What a row can do in a run, for every row: the stream fault, or the read of the byte at the cursor. -/
theorem exec_next {i : Instr} {s t : State} (hrun : s.runState = .running) (h : exec i s = .next t) :
    (s.read = none ∧ t = s.raiseStreamFault) ∨ ∃ b, s.read = some b ∧ ReadsTo s b i t := by
  cases hf : formOf s.params.cbY7Mnemonic i with
  | some f =>
    rw [exec_eq_runForm hf] at h
    rcases runForm_next h with ⟨hidle, -⟩ | ⟨-, hfault | ⟨b, hb, hk⟩⟩
    · exact absurd hrun hidle
    · exact .inl hfault
    · exact .inr ⟨b, hb, readsTo_of_runForm hf hk⟩
  | none =>
    rcases formOf_none hf with ⟨sfx, rfl⟩ | ⟨x, rfl⟩ | rfl | rfl | rfl | ⟨op, hop⟩
    · refine readsTo_of_withRead hrun h fun b hk => ?_
      cases hk
      exact .goesOn (.modeSelect sfx)
    · refine readsTo_of_withRead hrun h fun b hk => ?_
      cases hk
      exact .goesOn (.indexPrefix x)
    · refine readsTo_of_withRead hrun h fun b hk => .goesOn ?_
      split at hk
      · rename_i hp
        cases hk
        exact .displacement hp
      · rename_i hp
        split at hk
        · rename_i hx
          cases hk
          exact .indexCbPrefix hp hx.1
        · cases hk
          exact .cbPrefix hp
    · refine readsTo_of_withRead hrun h fun b hk => ?_
      cases hk
      exact .goesOn .edPrefix
    · refine readsTo_of_withRead hrun h fun b hk => ?_
      cases hk
      exact .endsPrefixOnly rfl
    · have hnone : formIgnored op = none := by rcases hop with rfl | rfl <;> exact hf
      rcases hop with rfl | rfl <;> simp [exec, execBaseIxIgnored, execBaseIyIgnored, runIgnored, hnone] at h

-- The start of the next instruction

theorem State.settled_eq_self {s : State} (h : s.phase ≠ .complete) : s.settled = s := if_neg h

theorem State.settled_eq_beginInstr {s : State} (h : s.phase = .complete) : s.settled = s.beginInstr := if_pos h

/-- An instruction start (R702) touches the registers of the instruction only. -/
theorem State.settled_cases {P : State → Prop} {s : State} (hself : P s) (hbegin : P s.beginInstr) : P s.settled := by
  by_cases h : s.phase = .complete
  · rwa [settled_eq_beginInstr h]
  · rwa [settled_eq_self h]

@[simp] theorem State.settled_stream (s : State) : s.settled.stream = s.stream :=
  settled_cases (P := fun u => u.stream = s.stream) rfl rfl
@[simp] theorem State.settled_params (s : State) : s.settled.params = s.params :=
  settled_cases (P := fun u => u.params = s.params) rfl rfl
@[simp] theorem State.settled_execWidth (s : State) : s.settled.execWidth = s.execWidth :=
  settled_cases (P := fun u => u.execWidth = s.execWidth) rfl rfl
@[simp] theorem State.settled_cursor (s : State) : s.settled.cursor = s.cursor :=
  settled_cases (P := fun u => u.cursor = s.cursor) rfl rfl
@[simp] theorem State.settled_remaining (s : State) : s.settled.remaining = s.remaining :=
  settled_cases (P := fun u => u.remaining = s.remaining) rfl rfl
@[simp] theorem State.settled_fault (s : State) : s.settled.fault = s.fault :=
  settled_cases (P := fun u => u.fault = s.fault) rfl rfl
@[simp] theorem State.settled_runState (s : State) : s.settled.runState = s.runState :=
  settled_cases (P := fun u => u.runState = s.runState) rfl rfl
@[simp] theorem State.settled_emitted (s : State) : s.settled.emitted = s.emitted :=
  settled_cases (P := fun u => u.emitted = s.emitted) rfl rfl
@[simp] theorem State.settled_inbox (s : State) : s.settled.inbox = s.inbox :=
  settled_cases (P := fun u => u.inbox = s.inbox) rfl rfl

@[simp] theorem State.settled_streamByte (s : State) (a : Addr) : s.settled.streamByte a = s.streamByte a := by
  simp [streamByte]

theorem State.settled_phase_ne_complete (s : State) : s.settled.phase ≠ .complete := by
  by_cases h : s.phase = .complete
  · simp [settled_eq_beginInstr h]
  · rwa [settled_eq_self h]

/-- An address that cannot be read. -/
theorem read_none_iff {s : State} : s.read = none ↔ readable s.params s.cursor = false := by
  simp [State.read]

-- What accepting a byte changes

/-- `u` is `s` with byte `b` accepted and no record made: of the registers that outlive the instruction only the cursor has
moved, and the raw bytes have grown by `b` (R72). -/
structure Accepted (s : State) (b : Byte) (u : State) : Prop where
  stream : u.stream = s.stream
  params : u.params = s.params
  execWidth : u.execWidth = s.execWidth
  startAddress : u.startAddress = s.startAddress
  remaining : u.remaining = s.remaining
  output : u.output = s.output
  fault : u.fault = s.fault
  runState : u.runState = s.runState
  emitted : u.emitted = s.emitted
  inbox : u.inbox = s.inbox
  cursor : u.cursor = s.cursor + 1
  rawBytes : u.rawBytes = s.rawBytes ++ [b]

/-- A byte that leaves the instruction open is accepted, and so is the last one. -/
theorem OpenByte.accepted {s u : State} {b : Byte} {i : Instr} (h : OpenByte s b i u) : Accepted s b u := by
  cases h <;> exact ⟨rfl, rfl, rfl, rfl, rfl, rfl, rfl, rfl, rfl, rfl, rfl, rfl⟩

theorem LastByte.accepted {s u : State} {b : Byte} {f : Form} (h : LastByte f s b u) : Accepted s b u := by
  cases h <;> exact ⟨rfl, rfl, rfl, rfl, rfl, rfl, rfl, rfl, rfl, rfl, rfl, rfl⟩

/-- The byte that completes a row is none of the prefixes. -/
theorem LastByte.prefixes_eq {s u : State} {b : Byte} {f : Form} (h : LastByte f s b u) :
    u.suffix = s.suffix ∧ u.regSet = s.regSet := by
  cases h <;> exact ⟨rfl, rfl⟩

/-- The read of a byte accepts it, or makes the record, with the byte or without it. -/
theorem ReadsTo.accepted_or_finish {s t : State} {b : Byte} {i : Instr} (h : ReadsTo s b i t) :
    Accepted s b t ∨ ∃ u kind form text, (Accepted s b u ∨ u = s) ∧ t = u.finish kind form text := by
  cases h with
  | goesOn h => exact .inl h.accepted
  | completes _ hu hc =>
    rcases complete_next hc with ⟨-, rfl⟩ | ⟨_, _, _, -, -, rfl⟩
    · exact .inr ⟨_, _, _, _, .inl hu.accepted, rfl⟩
    · exact .inr ⟨_, _, _, _, .inl hu.accepted, rfl⟩
  | endsPrefixOnly => exact .inr ⟨s, _, _, _, .inr rfl, rfl⟩

/-- No row is found only where the byte at the cursor cannot be read. -/
theorem read_none_of_nextInstr {s : State} (h : s.nextInstr = .ok none) : s.read = none := by
  unfold State.nextInstr at h
  split at h
  · split at h <;> cases h
  · split at h
    · cases h
    · simpa using h
  all_goals simpa using h

/-- What a step with no request waiting can do: nothing with no run active; else the stream fault, or the read of the byte at
the cursor by the row it belongs to. -/
theorem step_reads {s t : State} (hin : s.inbox = []) (h : step s = .next t) :
    (s.runState ≠ .running ∧ t = s) ∨
    s.runState = .running ∧ ((s.settled.read = none ∧ t = s.settled.raiseStreamFault) ∨
      ∃ i b, s.settled.nextInstr = .ok (some i) ∧ s.settled.read = some b ∧ ReadsTo s.settled b i t) := by
  rcases step_next h with ⟨ev, rest, hev, -⟩ | ⟨-, hrun, hnone, rfl⟩ | ⟨i, -, hrun, hi, hex⟩ | ⟨-, hidle, rfl⟩
  · rw [hin] at hev
    cases hev
  · exact .inr ⟨hrun, .inl ⟨read_none_of_nextInstr hnone, rfl⟩⟩
  · refine .inr ⟨hrun, (exec_next (by simpa using hrun) hex).imp_right fun ⟨b, hb, ht⟩ => ⟨i, b, hi, hb, ht⟩⟩
  · exact .inl ⟨hidle, rfl⟩

/-- A waiting request is served (assumption log 6). -/
theorem step_request {s : State} {ev : HostEvent} {rest : List HostEvent} (hin : s.inbox = ev :: rest) :
    step s = serveHost ev { s with inbox := rest } := by
  rw [step, hin]

/-- The bytes of the records, one more made. -/
@[simp] theorem State.finish_emittedBytes (s : State) (kind : Kind) (form : Option Nat) (text : String) :
    (s.finish kind form text).emittedBytes = s.emittedBytes + s.byteLength := by
  simp [State.emittedBytes, State.record]

/-- Accepting a byte pays nothing and emits nothing. -/
theorem Accepted.budget_eq {s u : State} {b : Byte} (h : Accepted s b u) :
    u.remaining + u.emittedBytes = s.remaining + s.emittedBytes := by
  simp [State.emittedBytes, h.remaining, h.emitted]

/-- Making a record pays its bytes (R140). -/
theorem finish_budget_eq (s : State) (kind : Kind) (form : Option Nat) (text : String) :
    (s.finish kind form text).remaining + (s.finish kind form text).emittedBytes = s.remaining + s.emittedBytes := by
  simp

/-- A run goes on after a record exactly while the budget is positive (R140). -/
theorem finish_running_iff (s : State) (kind : Kind) (form : Option Nat) (text : String) :
    (s.finish kind form text).runState = .running ↔ 0 < (s.finish kind form text).remaining := by
  simp

/-- Settles O40: the read of a byte accepts it, and a record is made of what is accepted. -/
theorem frameOfAStep : Obligations.FrameOfAStep := by
  intro s t hin h
  rcases step_reads hin h with ⟨hidle, rfl⟩ | ⟨-, ⟨-, rfl⟩ | ⟨i, b, -, hb, hread⟩⟩
  · exact ⟨rfl, rfl, rfl, hin, .inl rfl, .inl ⟨rfl, fun hrun => absurd hrun hidle⟩⟩
  · simp [hin]
  · obtain ⟨hok, rfl⟩ := read_some_iff.mp hb
    simp only [State.settled_params, State.settled_cursor] at hok
    rcases hread.accepted_or_finish with hacc | ⟨u, kind, form, text, hacc | rfl, rfl⟩
    · simp [hacc.stream, hacc.params, hacc.execWidth, hacc.inbox, hacc.emitted, hacc.cursor, hacc.rawBytes, hin, hok]
    · simp [hacc.stream, hacc.params, hacc.execWidth, hacc.inbox, hacc.emitted, hacc.cursor, hacc.rawBytes, hin, hok]
    · simp [hin]

/-- After a record the run goes on, or it is done and the budget is used up (R140). -/
theorem finish_running_or_done (s : State) (kind : Kind) (form : Option Nat) (text : String) :
    (s.finish kind form text).runState = .running ∨
    (s.finish kind form text).runState = .done ∧ (s.finish kind form text).remaining ≤ 0 := by
  simp only [State.finish_runState, State.finish_remaining]
  split
  · exact .inl rfl
  · exact .inr ⟨rfl, by omega⟩

/-- The read of a byte raises no fault, and ends the run only with a record that used the budget up. -/
theorem ReadsTo.runState {s t : State} {b : Byte} {i : Instr} (hrun : s.runState = .running) (h : ReadsTo s b i t) :
    t.fault = s.fault ∧ (t.runState = .running ∨ t.runState = .done ∧ t.phase = .complete ∧ t.remaining ≤ 0) := by
  rcases h.accepted_or_finish with hacc | ⟨u, kind, form, text, hu, rfl⟩
  · exact ⟨hacc.fault, .inl (hacc.runState.trans hrun)⟩
  · have hfault : u.fault = s.fault := hu.elim Accepted.fault fun h => by rw [h]
    exact ⟨hfault, (finish_running_or_done u kind form text).imp_right fun ⟨hdone, hrem⟩ => ⟨hdone, rfl, hrem⟩⟩

/-- Settles O39, from what a read does to the run and from the requests that are served outside one. -/
theorem runStateTransitions : Obligations.RunStateTransitions := by
  intro s t h
  cases hin : s.inbox with
  | nil =>
    rcases step_reads hin h with ⟨-, rfl⟩ | ⟨hrun, ⟨hnone, rfl⟩ | ⟨i, b, -, -, hread⟩⟩
    · exact .inl ⟨rfl, rfl⟩
    · exact .inr (.inr (.inr ⟨hrun, rfl, by simp, by simpa using read_none_iff.mp hnone⟩))
    · obtain ⟨hfault, hgoes | ⟨hdone, hphase, hrem⟩⟩ := hread.runState (by simpa using hrun)
      · exact .inl ⟨hgoes.trans hrun.symm, by simpa using hfault⟩
      · exact .inr (.inr (.inl ⟨hrun, hdone, by simpa using hfault, hphase, hrem⟩))
  | cons ev rest =>
    rw [step_request hin] at h
    obtain ⟨hidle, ⟨a, c, f, width, rfl, -, -, -, rfl⟩ | ⟨p, rfl, rfl⟩ | ⟨a, b, rfl, rfl⟩⟩ := serveHost_next h
    · refine .inr (.inl ⟨hidle, rfl, ?_, a, c, f, rest, rfl⟩)
      simp only [State.startRun_runState]
      split <;> simp
    · exact .inl ⟨rfl, rfl⟩
    · exact .inl ⟨rfl, rfl⟩

/-- Budget and emitted bytes add up to the same in every step of a run (R140). -/
theorem step_budget_eq {s t : State} (hin : s.inbox = []) (h : step s = .next t) :
    t.remaining + t.emittedBytes = s.remaining + s.emittedBytes := by
  rcases step_reads hin h with ⟨-, rfl⟩ | ⟨-, ⟨-, rfl⟩ | ⟨i, b, -, hb, hread⟩⟩
  · rfl
  · simp [State.emittedBytes]
  · have hs : s.settled.remaining + s.settled.emittedBytes = s.remaining + s.emittedBytes := by
      simp [State.emittedBytes]
    rcases hread.accepted_or_finish with hacc | ⟨u, kind, form, text, hacc | rfl, rfl⟩
    · rw [hacc.budget_eq, hs]
    · rw [finish_budget_eq, hacc.budget_eq, hs]
    · rw [finish_budget_eq, hs]

-- The row of the next byte

/-- The prefixes taken, read off the registers (R37). -/
theorem prefixCount_eq (s : State) :
    s.prefixCount = (if s.suffix = .none then 0 else 1) + (if s.regSet = .hl then 0 else 1) := by
  unfold State.prefixCount State.msSeen State.idxSeen
  cases s.suffix <;> cases s.regSet <;> rfl

/-- There are two kinds of them (R113). -/
theorem prefixCount_le (s : State) : s.prefixCount ≤ 2 := by
  rw [prefixCount_eq]
  split <;> split <;> omega

theorem prefixCount_le_one {s : State} (h : s.suffix = .none ∨ s.regSet = .hl) : s.prefixCount ≤ 1 := by
  rw [prefixCount_eq]
  rcases h with h | h
  · rw [if_pos h]
    split <;> omega
  · rw [if_pos h]
    split <;> omega

theorem one_le_prefixCount {s : State} (h : s.suffix ≠ .none ∨ s.regSet ≠ .hl) : 1 ≤ s.prefixCount := by
  rw [prefixCount_eq]
  rcases h with h | h
  · rw [if_neg h]
    omega
  · rw [if_neg h]
    omega

/-- The first mode-select of an instruction counts. -/
theorem prefixCount_first_suffix {s u : State} (hs : s.suffix = .none) (hu : u.suffix ≠ .none) (hrs : u.regSet = s.regSet) :
    u.prefixCount = s.prefixCount + 1 := by
  rw [prefixCount_eq, prefixCount_eq, if_pos hs, if_neg hu, hrs]
  omega

/-- So does the first DD or FD. -/
theorem prefixCount_first_regSet {s u : State} (hs : s.regSet = .hl) (hu : u.regSet ≠ .hl) (hsfx : u.suffix = s.suffix) :
    u.prefixCount = s.prefixCount + 1 := by
  rw [prefixCount_eq, prefixCount_eq, if_pos hs, if_neg hu, hsfx]

/-- A block about to read a byte that selects a row: the bytes accepted are the prefixes taken and those of the page (R121),
a displacement is latched before an indexed-CB opcode only, and ED comes with register set HL (R116). -/
structure State.AtSelector (s : State) : Prop where
  not_operands : s.phase ≠ .operands
  length_eq : s.byteLength = s.prefixCount + pageBytes (pageIn s.ctx)
  displaced : s.phase = .afterIndexCB → s.d ≠ none
  d_none : pageIn s.ctx ≠ .indexCb → s.d = none
  ed_regSet : s.ctx = .ed → s.regSet = .hl

/-- The shape of the phase puts a running block there, while no operand and no displacement of an indexed CB is fetched. -/
theorem State.Shape.atSelector {s : State} (h : s.Shape) (hop : s.phase ≠ .operands) (hcomplete : s.phase ≠ .complete)
    (hd : s.phase = .afterIndexCB → s.d ≠ none) : s.AtSelector := by
  cases hp : s.phase with
  | noPrefix =>
    simp only [State.Shape, hp] at h
    obtain ⟨hraw, hsfx, hrs, hd⟩ := h
    constructor <;> simp [State.ctx, hp, pageIn, pageBytes, State.byteLength, hraw, prefixCount_eq, hsfx, hrs, hd]
  | afterModeSelect | afterDD | afterFD | afterCB | afterED =>
    simp only [State.Shape, hp] at h
    constructor <;> simp [State.ctx, hp, pageIn, pageBytes, h]
  | afterIndexCB =>
    simp only [State.Shape, hp] at h
    obtain ⟨hrs, hlen⟩ := h
    obtain ⟨d, hd⟩ := Option.ne_none_iff_exists'.mp (hd hp)
    cases hx : s.regSet with
    | hl => exact absurd hx hrs
    | ix | iy => constructor <;> simp [State.ctx, hp, hx, indexOf, pageIn, pageBytes, hlen, hd]
  | operands => exact absurd hp hop
  | complete => exact absurd hp hcomplete

/-- The row of the next byte (R110 to R118): the latched one, CB for its displacement, or the one the byte selects. -/
theorem nextInstr_cases {s : State} {i : Instr} {b : Byte} (h : s.nextInstr = .ok (some i)) (hb : s.read = some b) :
    (s.phase = .operands ∧ ∃ p o, s.page = some p ∧ s.op = some o ∧ i = classify (latchedCtx p s.regSet) o) ∨
    (s.phase = .afterIndexCB ∧ s.d = none ∧ i = .cbPrefix) ∨
    (s.phase ≠ .operands ∧ (s.phase = .afterIndexCB → s.d ≠ none) ∧ i = classify s.ctx b) := by
  unfold State.nextInstr at h
  rw [hb] at h
  split at h
  · rename_i hp
    split at h
    · rename_i p o hpage hop
      cases h
      exact .inl ⟨hp, p, o, hpage, hop, rfl⟩
    · cases h
  · rename_i hp
    split at h
    · rename_i hd
      cases h
      exact .inr (.inl ⟨hp, hd, rfl⟩)
    · rename_i hd
      cases h
      exact .inr (.inr ⟨by simp [hp], fun _ => hd, rfl⟩)
  all_goals
    rename_i hp
    cases h
    exact .inr (.inr ⟨by simp [hp], by simp [hp], rfl⟩)

/-- A context admits the rows of its page. -/
theorem pageOf_of_admits {h : Home} {c : Ctx} (ha : h.admits c = true) : pageOf h = pageIn c := by
  cases c <;> cases h <;> simp_all [Home.admits, pageOf, pageIn]

/-- The form of the row a byte selects fits the page of the context. -/
theorem classify_form_fits {k : CbY7Mnemonic} {c : Ctx} {b : Byte} {f : Form} (hf : formOf k (classify c b) = some f) :
    f.fits (pageIn c) = true := by
  rw [← pageOf_of_admits (home_classify_admits c b)]
  exact formOf_fits hf

/-- The page of the context is that of the row selected. -/
theorem pageIn_of_classify {c : Ctx} {b : Byte} {i : Instr} (h : classify c b = i) : pageIn c = pageOf (home i) := by
  rw [← h, pageOf_of_admits (home_classify_admits c b)]

theorem ctx_of_pageIn_base {s : State} (h : pageIn s.ctx = .base) : s.ctx = .base s.msSeen s.regSet := by
  cases hp : s.phase with
  | afterCB | afterED => simp [State.ctx, hp, pageIn] at h
  | afterIndexCB => cases hx : s.regSet <;> simp [State.ctx, hp, hx, indexOf, pageIn] at h
  | _ => simp [State.ctx, hp]

theorem ctx_of_pageIn_ed {s : State} (h : pageIn s.ctx = .ed) : s.ctx = .ed := by
  cases hc : s.ctx with
  | ed => rfl
  | base | cb | indexCb =>
    rw [hc] at h
    cases h

/-- In base-page position only the prefixes have been accepted. -/
theorem State.AtSelector.base {s : State} (h : s.AtSelector) (hpage : pageIn s.ctx = .base) :
    s.byteLength = s.prefixCount ∧ s.d = none :=
  ⟨by simpa [hpage, pageBytes] using h.length_eq, h.d_none (by simp [hpage])⟩

/-- An opcode selects the same row whether or not a mode-select was taken (R114). -/
theorem classify_base_of_form {k : CbY7Mnemonic} {ms : Bool} {rs : RegSet} {b : Byte} {f : Form}
    (hf : formOf k (classify (.base ms rs) b) = some f) : classify (.base false rs) b = classify (.base ms rs) b := by
  by_cases hms : isModeSelect b = true
  · cases ms <;> simp [classify, classifyBasePosition, hms, formOf] at hf
  · simp [classify, classifyBasePosition, hms]

/-- The context latched with the opcode selects the row again. -/
theorem State.AtSelector.classify_latchedCtx {s : State} {k : CbY7Mnemonic} {b : Byte} {f : Form}
    (hf : formOf k (classify s.ctx b) = some f) (hpage : pageIn s.ctx = .base ∨ pageIn s.ctx = .ed) :
    classify (latchedCtx (pageIn s.ctx) s.regSet) b = classify s.ctx b := by
  rcases hpage with h | h
  · rw [ctx_of_pageIn_base h] at hf ⊢
    exact classify_base_of_form hf
  · rw [ctx_of_pageIn_ed h]
    rfl

/-- The bytes before a selecting byte are at most four: two prefixes, CB and a displacement. -/
theorem State.AtSelector.byteLength_le {s : State} (h : s.AtSelector) : s.byteLength ≤ 4 := by
  have hpc := prefixCount_le s
  have hpage : pageBytes (pageIn s.ctx) ≤ 2 := by cases pageIn s.ctx <;> simp [pageBytes]
  have hlen := h.length_eq
  omega

/-- A block about to read an operand byte of row `i` with form `f` (R120). -/
structure State.AtOperand (s : State) (i : Instr) (f : Form) : Prop where
  phase_eq : s.phase = .operands
  page_eq : s.page = some f.page
  row : ∃ o, s.op = some o ∧ classify (latchedCtx f.page s.regSet) o = i
  form : formOf s.params.cbY7Mnemonic i = some f
  page_cases : f.page = .base ∨ f.page = .ed ∧ s.regSet = .hl
  opcode_read : s.opcodeEnd ≤ s.byteLength
  more : s.operandCount < recipeMax f.recipe
  d_iff : s.d ≠ none ↔ f.recipe = .dn ∧ s.operandCount = 1
  third_is_long : f.recipe = .w → s.operandCount = 2 → s.wordIsLong = true

/-- The shape of phase Operands is that some row has an operand byte to come. -/
theorem State.AtOperand.shape {s : State} {i : Instr} {f : Form} (h : s.AtOperand i f) : s.Shape := by
  obtain ⟨o, ho, hrow⟩ := h.row
  simp only [State.Shape, h.phase_eq]
  exact ⟨f.page, o, f, h.page_eq, ho, h.page_cases, hrow ▸ h.form, rfl, h.opcode_read, h.more, h.d_iff, h.third_is_long⟩

theorem State.Shape.atOperand {s : State} (h : s.Shape) (hp : s.phase = .operands) {p : Page} {o : Byte}
    (hpage : s.page = some p) (hop : s.op = some o) : ∃ f, s.AtOperand (classify (latchedCtx p s.regSet) o) f := by
  simp only [State.Shape, hp] at h
  obtain ⟨p', o', f, hpage', hop', hcases, hf, rfl, hread, hmore, hd, hw⟩ := h
  obtain rfl : f.page = p := by simpa [hpage] using hpage'.symm
  obtain rfl : o' = o := by simpa [hop] using hop'.symm
  exact ⟨f, hp, hpage, ⟨o', hop, rfl⟩, hf, hcases, hread, hmore, hd, hw⟩

/-- An instruction with an operand byte to come has at most five bytes (R121, R122). -/
theorem State.AtOperand.byteLength_lt {s : State} {i : Instr} {f : Form} (h : s.AtOperand i f) : s.byteLength < 6 := by
  have hmax : recipeMax f.recipe ≤ 3 := by cases f.recipe <;> simp [recipeMax]
  have hmore := h.more
  have hread := h.opcode_read
  have hend := opcodeEnd_eq s
  unfold State.operandCount at hmore
  rcases h.page_cases with hbase | ⟨hed, hrs⟩
  · have hpc := prefixCount_le s
    simp only [h.page_eq, hbase] at hend
    simp at hend
    omega
  · have hpc := prefixCount_le_one (.inr hrs)
    simp only [h.page_eq, hed] at hend
    simp at hend
    omega

/-- A running block in the middle of an instruction, whose next byte is `b` and belongs to row `i`. -/
structure State.AtByte (s : State) (i : Instr) (b : Byte) : Prop where
  shape : s.Shape
  not_complete : s.phase ≠ .complete
  row : s.nextInstr = .ok (some i)
  byte : s.read = some b

/-- Where the byte stands: at an operand, at the displacement of an indexed CB, or where it selects a row. -/
theorem State.AtByte.position {s : State} {i : Instr} {b : Byte} (h : s.AtByte i b) :
    (∃ f, s.AtOperand i f) ∨ (s.phase = .afterIndexCB ∧ s.d = none ∧ i = .cbPrefix) ∨
    (s.AtSelector ∧ classify s.ctx b = i) := by
  rcases nextInstr_cases h.row h.byte with ⟨hp, p, o, hpage, hop, rfl⟩ | hdisp | ⟨hp, hd, rfl⟩
  · exact .inl (h.shape.atOperand hp hpage hop)
  · exact .inr (.inl hdisp)
  · exact .inr (.inr ⟨h.shape.atSelector hp h.not_complete hd, rfl⟩)

/-- A row without a form is selected in base-page position, after nothing but the prefixes taken, or reads a displacement. -/
theorem State.AtByte.base {s : State} {i : Instr} {b : Byte} (h : s.AtByte i b)
    (hform : formOf s.params.cbY7Mnemonic i = none) (hpage : pageOf (home i) = .base)
    (hdisp : s.phase = .afterIndexCB → i ≠ .cbPrefix) :
    s.byteLength = s.prefixCount ∧ s.d = none ∧ classify (.base s.msSeen s.regSet) b = i := by
  rcases h.position with ⟨f, hop⟩ | ⟨hp, -, hcb⟩ | ⟨hsel, hc⟩
  · rw [hop.form] at hform
    cases hform
  · exact absurd hcb (hdisp hp)
  · have hbase : pageIn s.ctx = .base := (pageIn_of_classify hc).trans hpage
    obtain ⟨hlen, hd⟩ := hsel.base hbase
    exact ⟨hlen, hd, by rw [← ctx_of_pageIn_base hbase, hc]⟩

/-- The displacement of an indexed CB is read where none is latched yet (42_cb_page.md R362). -/
theorem State.AtByte.displacement {s : State} {b : Byte} (h : s.AtByte .cbPrefix b) (hp : s.phase = .afterIndexCB) :
    s.regSet ≠ .hl ∧ s.byteLength = s.prefixCount + 1 := by
  rcases h.position with ⟨f, hop⟩ | ⟨-, hd, -⟩ | ⟨hsel, hc⟩
  · cases hp.symm.trans hop.phase_eq
  · have hshape := h.shape
    simp only [State.Shape, hp, hd] at hshape
    exact hshape
  · exact absurd (hsel.base (pageIn_of_classify hc)).2 (hsel.displaced hp)

/-- Outside the operands, a row with a form is the one the byte selects. -/
theorem State.AtByte.selector {s : State} {i : Instr} {b : Byte} {f : Form} (h : s.AtByte i b)
    (hform : formOf s.params.cbY7Mnemonic i = some f) (hp : s.phase ≠ .operands) :
    s.AtSelector ∧ classify s.ctx b = i := by
  rcases h.position with ⟨_, hop⟩ | ⟨-, -, rfl⟩ | hsel
  · exact absurd hop.phase_eq hp
  · cases hform
  · exact hsel

/-- While operands are fetched, the row is the latched one. -/
theorem State.AtByte.operand {s : State} {i : Instr} {b : Byte} {f : Form} (h : s.AtByte i b)
    (hform : formOf s.params.cbY7Mnemonic i = some f) (hp : s.phase = .operands) : s.AtOperand i f := by
  rcases h.position with ⟨g, hop⟩ | ⟨hp', -⟩ | ⟨hsel, -⟩
  · obtain rfl : g = f := by simpa [hform] using hop.form.symm
    exact hop
  · cases hp.symm.trans hp'
  · exact absurd hp hsel.not_operands

/-- In the middle of an instruction at most five bytes are accepted (R121, R122). -/
theorem State.AtByte.byteLength_lt {s : State} {i : Instr} {b : Byte} (h : s.AtByte i b) : s.byteLength < 6 := by
  rcases h.position with ⟨f, hop⟩ | ⟨hp, -, rfl⟩ | ⟨hsel, -⟩
  · exact hop.byteLength_lt
  · have hlen := (h.displacement hp).2
    have hpc := prefixCount_le s
    omega
  · have hlen := hsel.byteLength_le
    omega

theorem textOf_ne_empty {kw : String} (h : kw ≠ "") (sfx : Suffix) (ts : List String) : textOf kw sfx ts ≠ "" := by
  simp [textOf, h]

/-- The record a row completes with is well formed. -/
theorem complete_next_ok {f : Form} {p : Page} {u t : State} (hfit : f.fits p = true) (h1 : 1 ≤ u.byteLength)
    (h6 : u.byteLength ≤ 6) (h : complete f u = .next t) :
    ∃ kind form text, t = u.finish kind form text ∧ (u.record kind form text).Ok := by
  obtain ⟨-, -, hkw⟩ := Form.fits_iff.mp hfit
  rcases complete_next h with ⟨-, rfl⟩ | ⟨kw, operands, ts, hbody, -, rfl⟩
  · exact ⟨_, _, _, rfl, rfl, ⟨h1, h6⟩, by simp [State.record], by simp [State.record]⟩
  · exact ⟨_, _, _, rfl, rfl, ⟨h1, h6⟩, by simp [State.record, textOf_ne_empty (hkw kw operands hbody)],
      by simp [State.record]⟩

-- The invariant while an instruction is in progress

/-- What the invariant says of a running block in the middle of an instruction, but for the shape of the phase. -/
structure State.InProgress (s : State) : Prop where
  stream_canonical : s.stream.wf = true
  length_le : s.byteLength ≤ 6
  cursor_eq : s.cursor = s.startAddress + BitVec.ofNat 24 s.byteLength
  suffix_from_byte : s.suffix ≠ .none → ∃ b ∈ s.rawBytes.take 2, isModeSelect b = true
  regSet_from_byte : s.regSet ≠ .hl → ∃ b ∈ s.rawBytes.take 2, b = 0xDD ∨ b = 0xFD
  records_ok : ∀ r ∈ s.emitted, r.Ok
  output_none : s.output = none
  running : s.runState = .running
  fault_none : s.fault = .none
  budget : 0 < s.remaining

/-- The invariant of a running block gives this, with no record ready and no fault. -/
theorem State.Inv.inProgress {s : State} (h : s.Inv) (hrun : s.runState = .running) (hp : s.phase ≠ .complete) :
    s.InProgress where
  stream_canonical := h.stream_canonical
  length_le := h.length_le
  cursor_eq := h.cursor_eq
  suffix_from_byte := h.suffix_from_byte
  regSet_from_byte := h.regSet_from_byte
  records_ok := h.records_ok
  output_none := not_not.mp fun hout => hp (h.complete_iff.mpr hout)
  running := hrun
  fault_none := not_not.mp fun hf => by simpa [hrun] using h.faulted_iff.mpr hf
  budget := h.running_budget hrun

/-- An open instruction whose phase has its shape meets the invariant. -/
theorem State.InProgress.inv {s : State} (h : s.InProgress) (hp : s.phase ≠ .complete) (hshape : s.Shape)
    (hlatches : s.n = none ∧ s.w = none ∧ s.e = none) : s.Inv where
  stream_canonical := h.stream_canonical
  length_le := h.length_le
  cursor_eq := h.cursor_eq
  suffix_from_byte := h.suffix_from_byte
  regSet_from_byte := h.regSet_from_byte
  complete_iff := by simp [hp, h.output_none]
  output_last := by simp [h.output_none]
  records_ok := h.records_ok
  running_shape := fun _ => hshape
  running_latches := fun _ _ => hlatches
  running_budget := fun _ => h.budget
  done_budget := by simp [h.running]
  faulted_iff := by simp [h.running, h.fault_none]

/-- Making a well-formed record of an instruction in progress meets the invariant (R140, R47 (d)). -/
theorem State.InProgress.finish_inv {s : State} (h : s.InProgress) {kind : Kind} {form : Option Nat} {text : String}
    (hok : (s.record kind form text).Ok) : (s.finish kind form text).Inv where
  stream_canonical := h.stream_canonical
  length_le := h.length_le
  cursor_eq := h.cursor_eq
  suffix_from_byte := h.suffix_from_byte
  regSet_from_byte := h.regSet_from_byte
  complete_iff := by simp
  output_last := by simp
  records_ok := by simpa [or_imp, forall_and] using ⟨h.records_ok, hok⟩
  running_shape := fun _ => hok.length_bounds.1
  running_latches := by simp
  running_budget := by simp
  done_budget := by simp
  faulted_iff := by
    rw [State.finish_runState, State.finish_fault, h.fault_none]
    split <;> simp

/-- The byte accepted, the instruction is still in progress: where the suffix or the register set is new, it comes from that
byte, one of the first two. -/
theorem Accepted.inProgress {s u : State} {b : Byte} (ha : Accepted s b u) (h : s.InProgress) (hlen : s.byteLength < 6)
    (hsfx : u.suffix = s.suffix ∨ s.byteLength < 2 ∧ isModeSelect b = true)
    (hrs : u.regSet = s.regSet ∨ s.byteLength < 2 ∧ (b = 0xDD ∨ b = 0xFD)) : u.InProgress := by
  have hlength : u.byteLength = s.byteLength + 1 := by simp [State.byteLength, ha.rawBytes]
  have hbyte : ∀ {P : Byte → Prop}, ((∃ c ∈ s.rawBytes.take 2, P c) ∨ s.byteLength < 2 ∧ P b) →
      ∃ c ∈ u.rawBytes.take 2, P c := by
    rintro P (⟨c, hc, hP⟩ | ⟨hlt, hP⟩)
    · exact ⟨c, by rw [ha.rawBytes, List.take_append]; exact List.mem_append_left _ hc, hP⟩
    · refine ⟨b, ?_, hP⟩
      rw [ha.rawBytes, List.take_of_length_le (by simpa [State.byteLength] using hlt)]
      simp
  exact {
    stream_canonical := ha.stream ▸ h.stream_canonical
    length_le := by omega
    cursor_eq := by
      rw [ha.cursor, h.cursor_eq, ha.startAddress, hlength, BitVec.ofNat_add, BitVec.add_assoc]
      rfl
    suffix_from_byte := fun hne => hbyte (hsfx.imp_left fun heq => h.suffix_from_byte (heq.symm.trans_ne hne))
    regSet_from_byte := fun hne => hbyte (hrs.imp_left fun heq => h.regSet_from_byte (heq.symm.trans_ne hne))
    records_ok := ha.emitted ▸ h.records_ok
    output_none := ha.output.trans h.output_none
    running := ha.runState.trans h.running
    fault_none := ha.fault.trans h.fault_none
    budget := ha.remaining ▸ h.budget }

-- Steps that read no byte

/-- A stream fault ends the run and leaves the rest of the state. -/
theorem raiseStreamFault_inv {s : State} (h : s.Inv) : s.raiseStreamFault.Inv :=
  { h with
    running_shape := nofun
    running_latches := nofun
    running_budget := nofun
    done_budget := nofun
    faulted_iff := by simp }

/-- So does the instruction start. -/
theorem beginInstr_inv {s : State} (h : s.Inv) : s.beginInstr.Inv where
  stream_canonical := h.stream_canonical
  length_le := by simp
  cursor_eq := by simp
  suffix_from_byte := by simp
  regSet_from_byte := by simp
  complete_iff := by simp
  output_last := by simp
  records_ok := h.records_ok
  running_shape := fun _ => ⟨rfl, rfl, rfl, rfl⟩
  running_latches := fun _ _ => ⟨rfl, rfl, rfl⟩
  running_budget := h.running_budget
  done_budget := h.done_budget
  faulted_iff := h.faulted_iff

theorem settled_inv {s : State} (h : s.Inv) : s.settled.Inv :=
  State.settled_cases h (beginInstr_inv h)

/-- A run start meets the invariant on a canonical stream (R701, R702). -/
theorem startRun_inv {s : State} (h : s.stream.wf = true) (width : ExecWidth) (start : Addr) (count : Int) :
    (s.startRun width start count).Inv where
  stream_canonical := h
  length_le := by simp [State.byteLength]
  cursor_eq := by simp [State.byteLength]
  suffix_from_byte := by simp
  regSet_from_byte := by simp
  complete_iff := by simp
  output_last := by simp
  records_ok := by simp
  running_shape := fun _ => ⟨rfl, rfl, rfl, rfl⟩
  running_latches := fun _ _ => ⟨rfl, rfl, rfl⟩
  running_budget := by simp
  done_budget := by simp
  faulted_iff := by
    rw [State.startRun_runState, State.startRun_fault]
    split <;> simp

/-- Every request that is served keeps the invariant. -/
theorem serveHost_inv {ev : HostEvent} {s t : State} (h : s.Inv) (hserve : serveHost ev s = .next t) : t.Inv := by
  obtain ⟨hidle, ⟨a, c, f, width, rfl, -, -, -, rfl⟩ | ⟨p, rfl, rfl⟩ | ⟨a, b, rfl, rfl⟩⟩ := serveHost_next hserve
  · exact startRun_inv h.stream_canonical _ _ _
  · exact { h with running_shape := fun hrun => absurd hrun hidle }
  · exact { h with
      stream_canonical := memWrite_wf _ _ _ h.stream_canonical
      running_shape := fun hrun => absurd hrun hidle }

/-- Power-on meets the invariant with the values of assumption log 2. -/
theorem reset_inv : State.reset.Inv where
  stream_canonical := rfl
  length_le := by decide
  cursor_eq := by decide
  suffix_from_byte := by decide
  regSet_from_byte := by decide
  complete_iff := by decide
  output_last := by simp [State.reset]
  records_ok := by simp [State.reset]
  running_shape := by simp [State.reset]
  running_latches := by simp [State.reset]
  running_budget := by simp [State.reset]
  done_budget := by simp [State.reset]
  faulted_iff := by decide

/-- Settles O45: at power-on no instruction is in progress and no record is made. -/
theorem invariantAtReset : Obligations.InvariantAtReset :=
  ⟨reset_inv, by simp [State.Contiguous, State.reset]⟩

-- An open instruction stays well shaped

/-- After the opcode byte of a row with operands, in a state at its opcode. -/
theorem atOperand_opcodeTaken {s : State} {b : Byte} {f : Form} (hsel : s.AtSelector)
    (hf : formOf s.params.cbY7Mnemonic (classify s.ctx b) = some f) (hr : f.recipe ≠ .none) :
    (s.opcodeTaken f.page b).AtOperand (classify s.ctx b) f := by
  obtain ⟨hpage, hop, -⟩ := Form.fits_iff.mp (classify_form_fits hf)
  have hcases : pageIn s.ctx = .base ∨ pageIn s.ctx = .ed := by tauto
  have hd : s.d = none := hsel.d_none (by rcases hcases with h | h <;> simp [h])
  have hlen := hsel.length_eq
  have hend : (s.opcodeTaken f.page b).opcodeEnd = s.byteLength + 1 := by
    have hpc : (s.opcodeTaken f.page b).prefixCount = s.prefixCount := rfl
    rw [opcodeEnd_eq, hpc, hlen, hpage]
    rcases hcases with h | h <;> simp [State.opcodeTaken, h, pageBytes]
  have hlen' : (s.opcodeTaken f.page b).byteLength = s.byteLength + 1 := State.accept_byteLength s b
  have hcount : (s.opcodeTaken f.page b).operandCount = 0 := by rw [State.operandCount, hend, hlen', Nat.sub_self]
  exact {
    phase_eq := rfl
    page_eq := rfl
    row := ⟨b, rfl, by rw [hpage]; exact State.AtSelector.classify_latchedCtx hf hcases⟩
    form := hf
    page_cases := by rw [hpage]; exact hcases.imp_right fun h => ⟨h, hsel.ed_regSet (ctx_of_pageIn_ed h)⟩
    opcode_read := by omega
    more := by rw [hcount]; cases hf : f.recipe <;> simp_all [recipeMax]
    d_iff := by simp [hcount]; exact hd
    third_is_long := by simp [hcount] }

/-- The state an operand byte leaves, with this displacement. -/
def State.operandTaken (s : State) (b : Byte) (d : Option Int) : State := { s.accept b with d := d }

/-- After an operand byte that is not the last. -/
theorem State.AtOperand.operandTaken {s : State} {i : Instr} {f : Form} {b : Byte} {d : Option Int} (h : s.AtOperand i f)
    (hmore : s.operandCount + 1 < recipeMax f.recipe) (hd : d ≠ none ↔ f.recipe = .dn ∧ s.operandCount = 0)
    (hlong : f.recipe = .w → s.operandCount = 1 → s.wordIsLong = true) : (s.operandTaken b d).AtOperand i f := by
  have hlen : (s.operandTaken b d).byteLength = s.byteLength + 1 := State.accept_byteLength s b
  have hend : (s.operandTaken b d).opcodeEnd = s.opcodeEnd := rfl
  have hread := h.opcode_read
  have hcount : (s.operandTaken b d).operandCount = s.operandCount + 1 := by
    unfold State.operandCount
    omega
  exact { h with
    opcode_read := by omega
    more := hcount ▸ hmore
    d_iff := hd.trans (by simp [hcount])
    third_is_long := fun hw hc => hlong hw (by omega) }

/-- A row that completes makes a well-formed record of the instruction in progress. -/
theorem LastByte.complete_inv {s u t : State} {b : Byte} {f : Form} {p : Page} (hu : LastByte f s b u)
    (h : s.InProgress) (hlen : s.byteLength < 6) (hfit : f.fits p = true) (hc : complete f u = .next t) : t.Inv := by
  have hacc := hu.accepted
  obtain ⟨hsfx, hrs⟩ := hu.prefixes_eq
  have hprogress := hacc.inProgress h hlen (.inl hsfx) (.inl hrs)
  have h1 : 1 ≤ u.byteLength := by simp [State.byteLength, hacc.rawBytes]
  obtain ⟨kind, form, text, rfl, hok⟩ := complete_next_ok hfit h1 hprogress.length_le hc
  exact hprogress.finish_inv hok

/-- The suffix and the register set change only by the bytes that set them, among the first two and at most once (R113). -/
theorem OpenByte.prefixes {s u : State} {i : Instr} {b : Byte} (hat : s.AtByte i b) (h : OpenByte s b i u) :
    (u.suffix = s.suffix ∨ s.suffix = .none ∧ s.byteLength < 2 ∧ isModeSelect b = true) ∧
    (u.regSet = s.regSet ∨ s.regSet = .hl ∧ s.byteLength < 2 ∧ (b = 0xDD ∨ b = 0xFD)) := by
  cases h with
  | modeSelect sfx =>
    obtain ⟨hlen, -, hc⟩ := hat.base rfl rfl (fun _ => nofun)
    obtain ⟨hms, hbyte, -⟩ := classify_eq_modeSelect hc
    have hnone : s.suffix = .none := by simpa [State.msSeen] using hms
    have hpc := prefixCount_le_one (.inl hnone)
    exact ⟨.inr ⟨hnone, by omega, hbyte⟩, .inl rfl⟩
  | indexPrefix x =>
    obtain ⟨hlen, -, hc⟩ := hat.base rfl rfl (fun _ => nofun)
    obtain ⟨hhl, hbyte⟩ := classify_eq_indexPrefix hc
    have hpc := prefixCount_le_one (.inr hhl)
    exact ⟨.inl rfl, .inr ⟨hhl, by omega, hbyte⟩⟩
  | _ => exact ⟨.inl rfl, .inl rfl⟩

/-- A byte that leaves the instruction open leads to a phase that has its shape (R112). -/
theorem OpenByte.shape {s u : State} {i : Instr} {b : Byte} (hat : s.AtByte i b) (h : OpenByte s b i u) : u.Shape := by
  have hlength : u.byteLength = s.byteLength + 1 := by simp [State.byteLength, h.accepted.rawBytes]
  cases h with
  | modeSelect sfx =>
    obtain ⟨hlen, hd, hc⟩ := hat.base rfl rfl (fun _ => nofun)
    obtain ⟨hms, -, hne⟩ := classify_eq_modeSelect hc
    have hnone : s.suffix = .none := by simpa [State.msSeen] using hms
    have hcount := prefixCount_first_suffix (u := s.prefixTaken b sfx s.regSet .afterModeSelect) hnone hne rfl
    exact ⟨by omega, hne, hd⟩
  | indexPrefix x =>
    obtain ⟨hlen, hd, hc⟩ := hat.base rfl rfl (fun _ => nofun)
    have hne : regSetOf x ≠ .hl := by cases x <;> decide
    have hcount := prefixCount_first_regSet (u := s.prefixTaken b s.suffix (regSetOf x) (phaseAfterIndex x))
      (classify_eq_indexPrefix hc).1 hne rfl
    cases x with
    | ix => exact ⟨by omega, rfl, hd⟩
    | iy => exact ⟨by omega, rfl, hd⟩
  | edPrefix =>
    obtain ⟨hlen, hd, hc⟩ := hat.base rfl rfl (fun _ => nofun)
    exact ⟨hlength.trans (congrArg (· + 1) hlen), classify_eq_edPrefix hc, hd⟩
  | cbPrefix hcb =>
    obtain ⟨hlen, hd, -⟩ := hat.base rfl rfl (fun h => absurd h hcb)
    exact ⟨hlength.trans (congrArg (· + 1) hlen), hd⟩
  | indexCbPrefix hcb hrs =>
    obtain ⟨hlen, hd, -⟩ := hat.base rfl rfl (fun h => absurd h hcb)
    exact ⟨hrs, by simpa [hd] using hlength.trans (congrArg (· + 1) hlen)⟩
  | displacement hcb =>
    obtain ⟨hrs, hlen⟩ := hat.displacement hcb
    simp only [State.Shape, State.latchD_phase, hcb]
    exact ⟨hrs, hlength.trans (congrArg (· + 1) hlen)⟩
  | opcode hf hop hr =>
    obtain ⟨hsel, rfl⟩ := hat.selector hf hop
    exact (atOperand_opcodeTaken hsel hf hr).shape
  | operandD hf hop hr h0 =>
    refine ((hat.operand hf hop).operandTaken (d := some (sext8 b)) ?_ ?_ ?_).shape
    · simp [h0, hr, recipeMax]
    · simp [h0, hr]
    · simp [hr]
  | operandW hf hop hr hcount =>
    refine ((hat.operand hf hop).operandTaken (d := s.d) ?_ ?_ ?_).shape
    · rw [hr, recipeMax]
      omega
    · simpa [hr] using (hat.operand hf hop).d_iff
    · intro _ h1
      rcases hcount with h0 | ⟨-, hlong⟩
      · omega
      · exact hlong

/-- The instruction stays open, and the latches that only a last byte sets stay as they are. -/
theorem OpenByte.latches {s u : State} {i : Instr} {b : Byte} (hp : s.phase ≠ .complete) (h : OpenByte s b i u) :
    u.phase ≠ .complete ∧ u.n = s.n ∧ u.w = s.w ∧ u.e = s.e := by
  cases h with
  | indexPrefix x => exact ⟨by cases x <;> nofun, rfl, rfl, rfl⟩
  | displacement | operandD | operandW => exact ⟨hp, rfl, rfl, rfl⟩
  | _ => exact ⟨nofun, rfl, rfl, rfl⟩

/-- A byte that leaves the instruction open keeps the invariant. -/
theorem OpenByte.inv {s u : State} {i : Instr} {b : Byte} (hat : s.AtByte i b) (hprogress : s.InProgress)
    (hlatches : s.n = none ∧ s.w = none ∧ s.e = none) (h : OpenByte s b i u) : u.Inv := by
  obtain ⟨hsfx, hrs⟩ := h.prefixes hat
  obtain ⟨hp, hn, hw, he⟩ := h.latches hat.not_complete
  exact (h.accepted.inProgress hprogress hat.byteLength_lt (hsfx.imp_right And.right) (hrs.imp_right And.right)).inv hp
    (h.shape hat) ⟨hn.trans hlatches.1, hw.trans hlatches.2.1, he.trans hlatches.2.2⟩

/-- The read of a byte keeps the invariant: the instruction stays open, or its record is well formed. -/
theorem ReadsTo.inv {s t : State} {i : Instr} {b : Byte} (hat : s.AtByte i b) (hprogress : s.InProgress)
    (hlatches : s.n = none ∧ s.w = none ∧ s.e = none) (h : ReadsTo s b i t) : t.Inv := by
  cases h with
  | goesOn h => exact h.inv hat hprogress hlatches
  | completes hf hu hc => exact hu.complete_inv hprogress hat.byteLength_lt (formOf_fits hf) hc
  | endsPrefixOnly hend =>
    subst hend
    obtain ⟨hlen, -, hc⟩ := hat.base rfl rfl (fun _ => nofun)
    have hpc : 1 ≤ s.prefixCount :=
      one_le_prefixCount ((classify_eq_prefixOnly hc).imp_left fun hms => by simpa [State.msSeen] using hms)
    exact hprogress.finish_inv
      ⟨rfl, ⟨hpc.trans_eq hlen.symm, hprogress.length_le⟩, by simp [State.record], by simp [State.record]⟩

-- The statements that rest on the invariant

/-- A byte that a running block reads, as the invariant places it. -/
theorem State.Inv.atByte {s : State} {i : Instr} {b : Byte} (hs : s.Inv) (hrun : s.runState = .running)
    (hp : s.phase ≠ .complete) (hi : s.nextInstr = .ok (some i)) (hb : s.read = some b) : s.AtByte i b :=
  ⟨hs.running_shape hrun, hp, hi, hb⟩

/-- Settles O46: a request that is served, the stream fault and the read of a byte each keep the invariant. -/
theorem stepKeepsTheInvariant : Obligations.StepKeepsTheInvariant := by
  intro s t hs h
  cases hin : s.inbox with
  | nil =>
    rcases step_reads hin h with ⟨-, rfl⟩ | ⟨hrun, ⟨-, rfl⟩ | ⟨i, b, hi, hb, hread⟩⟩
    · exact hs
    · exact raiseStreamFault_inv (settled_inv hs)
    · have hinv := settled_inv hs
      have hgoes : s.settled.runState = .running := by simpa using hrun
      have hp := State.settled_phase_ne_complete s
      exact hread.inv (hinv.atByte hgoes hp hi hb) (hinv.inProgress hgoes hp) (hinv.running_latches hgoes hp)
  | cons ev rest =>
    rw [step_request hin] at h
    exact serveHost_inv (s := { s with inbox := rest }) { hs with } h

/-- Settles O41: only a mode-select, DD or FD writes these registers, and each is taken once. -/
theorem prefixRegistersWrittenOnce : Obligations.PrefixRegistersWrittenOnce := by
  intro s t hs hin hp h
  have hread := step_reads hin h
  rw [State.settled_eq_self hp] at hread
  rcases hread with ⟨-, rfl⟩ | ⟨hrun, ⟨-, rfl⟩ | ⟨i, b, hi, hb, hread⟩⟩
  · exact ⟨fun _ => rfl, fun _ => rfl⟩
  · exact ⟨fun _ => rfl, fun _ => rfl⟩
  · cases hread with
    | goesOn hu =>
      obtain ⟨hsfx, hrs⟩ := hu.prefixes (hs.atByte hrun hp hi hb)
      exact ⟨fun hne => hsfx.resolve_right fun h => hne h.1, fun hne => hrs.resolve_right fun h => hne h.1⟩
    | completes _ hu hc =>
      obtain ⟨hsfx, hrs⟩ := hu.prefixes_eq
      rcases complete_next hc with ⟨-, rfl⟩ | ⟨_, _, _, -, -, rfl⟩
      · exact ⟨fun _ => hsfx, fun _ => hrs⟩
      · exact ⟨fun _ => hsfx, fun _ => hrs⟩
    | endsPrefixOnly => exact ⟨fun _ => rfl, fun _ => rfl⟩

/-- Settles O42: a record is at most six bytes, paid from a positive budget. -/
theorem budgetCountsInstructionBytes : Obligations.BudgetCountsInstructionBytes := by
  refine ⟨fun s t hin h => step_budget_eq hin h, fun s t hs hin hrun h => ?_⟩
  have hpos := hs.running_budget hrun
  rcases step_reads hin h with ⟨hidle, -⟩ | ⟨-, ⟨-, rfl⟩ | ⟨i, b, -, -, hread⟩⟩
  · exact absurd hrun hidle
  · exact ⟨.inl rfl, by simp; omega⟩
  · have hlen := (stepKeepsTheInvariant s t hs h).length_le
    rcases hread.accepted_or_finish with hacc | ⟨u, kind, form, text, hu, rfl⟩
    · have hrem : t.remaining = s.remaining := by simpa using hacc.remaining
      have hrun' : t.runState = .running := by simpa [hrun] using hacc.runState
      exact ⟨.inr (by simp [hrun', hrem, hpos]), by omega⟩
    · have hrem : u.remaining = s.remaining := by
        rcases hu with hacc | rfl
        · simpa using hacc.remaining
        · simp
      refine ⟨.inr (finish_running_iff u kind form text), ?_⟩
      simp only [State.finish_byteLength, State.finish_remaining] at hlen ⊢
      omega

end Sys2Proof.Machine

namespace Sys2Proof.Machine

open Sys2Proof.Claims

-- The same state over another stream

/-- The state `s` with its stream replaced by `m`. -/
def State.onStream (s : State) (m : Memory) : State := { s with stream := m }

@[simp] theorem State.onStream_params (s : State) (m : Memory) : (s.onStream m).params = s.params := rfl
@[simp] theorem State.onStream_regSet (s : State) (m : Memory) : (s.onStream m).regSet = s.regSet := rfl
@[simp] theorem State.onStream_phase (s : State) (m : Memory) : (s.onStream m).phase = s.phase := rfl
@[simp] theorem State.onStream_operandCount (s : State) (m : Memory) :
    (s.onStream m).operandCount = s.operandCount := rfl
@[simp] theorem State.onStream_accept_wordIsLong (s : State) (m : Memory) (b : Byte) :
    ((s.onStream m).accept b).wordIsLong = (s.accept b).wordIsLong := rfl

/-- The block reads the stream at the cursor only (R72). -/
theorem read_onStream {s : State} {m : Memory} (h : memRead m s.cursor.toNat = memRead s.stream s.cursor.toNat) :
    (s.onStream m).read = s.read := by
  simp only [State.read, State.streamByte, State.onStream, h]

theorem settled_onStream (s : State) (m : Memory) : (s.onStream m).settled = s.settled.onStream m := by
  by_cases hp : s.phase = .complete
  · rw [State.settled_eq_beginInstr hp, State.settled_eq_beginInstr (s := s.onStream m) hp]
    rfl
  · rw [State.settled_eq_self hp, State.settled_eq_self (s := s.onStream m) hp]

/-- The row the next read belongs to depends on the stream through that read alone. -/
theorem nextInstr_onStream {s : State} {m : Memory} (h : (s.onStream m).read = s.read) :
    (s.onStream m).nextInstr = s.nextInstr := by
  unfold State.nextInstr
  rw [h]
  rfl

theorem renderOperands_onStream (s : State) (m : Memory) (os : List Operand) :
    renderOperands (s.onStream m) os = renderOperands s os := by
  induction os with
  | nil => rfl
  | cons o os ih =>
    have ho : renderOperand (s.onStream m) o = renderOperand s o := rfl
    rw [renderOperands, renderOperands, ho, ih]

/-- Completing a row looks at no byte of the stream. -/
theorem complete_onStream (f : Form) (s : State) (m : Memory) :
    complete f (s.onStream m) = withStream m (complete f s) := by
  unfold complete
  split
  · rfl
  · rw [renderOperands_onStream]
    split <;> rfl

/-- What the opcode byte does depends on the byte, not on the stream it was read from. -/
theorem opcodeRead_onStream (f : Form) (s : State) (b : Byte) (m : Memory) :
    opcodeRead f (s.onStream m) b = withStream m (opcodeRead f s b) := by
  unfold opcodeRead
  split
  case h_1 => exact complete_onStream f (s.opcodeTaken f.page b) m
  all_goals rfl

/-- What an operand byte does depends on the byte, not on the stream it was read from. -/
theorem operandRead_onStream (f : Form) (s : State) (b : Byte) (m : Memory) :
    operandRead f (s.onStream m) b = withStream m (operandRead f s b) := by
  unfold operandRead
  rw [State.onStream_operandCount]
  split
  case h_1 => exact complete_onStream f (s.accept b) m
  case h_2 => exact complete_onStream f (s.latchN b) m
  case h_3 => exact complete_onStream f (s.latchD b) m
  case h_4 => exact complete_onStream f (s.latchE b) m
  case h_5 =>
    split
    · rfl
    · exact complete_onStream f (s.latchN b) m
  case h_6 =>
    dsimp only
    rw [State.onStream_accept_wordIsLong]
    split
    · rfl
    · split
      · split
        · rfl
        · exact complete_onStream f { s.accept b with w := some _ } m
      · exact complete_onStream f { s.accept b with w := some _ } m

/-- A meaning whose continuation keeps to the byte it is given depends on no other byte of the stream. -/
theorem withRead_onStream {s : State} {m : Memory} {k k' : Byte → Host.Outcome State Fault Refusal}
    (h : (s.onStream m).read = s.read) (hk : ∀ b, k' b = withStream m (k b)) :
    withRead (s.onStream m) k' = withStream m (withRead s k) := by
  by_cases hrun : s.runState = .running
  · cases hr : s.read with
    | none =>
      rw [withRead_none k hrun hr, withRead_none (s := s.onStream m) k' hrun (h.trans hr)]
      rfl
    | some b => rw [withRead_some k hrun hr, withRead_some (s := s.onStream m) k' hrun (h.trans hr), hk b]
  · rw [withRead_inactive k hrun, withRead_inactive (s := s.onStream m) k' hrun]
    rfl

theorem runForm_onStream {s : State} {m : Memory} (f : Form) (h : (s.onStream m).read = s.read) :
    runForm f (s.onStream m) = withStream m (runForm f s) := by
  refine withRead_onStream h fun b => ?_
  rw [State.onStream_phase, opcodeRead_onStream, operandRead_onStream]
  split <;> rfl

theorem execCbPrefix_onStream {s : State} {m : Memory} (h : (s.onStream m).read = s.read) :
    execCbPrefix (s.onStream m) = withStream m (execCbPrefix s) := by
  refine withRead_onStream h fun b => ?_
  rw [State.onStream_phase, State.onStream_regSet, State.onStream_params]
  split
  · rfl
  · split <;> rfl

/-- Every row's meaning depends on the stream through its one read (R72, R708). -/
theorem exec_onStream {s : State} {m : Memory} (i : Instr) (h : (s.onStream m).read = s.read) :
    exec i (s.onStream m) = withStream m (exec i s) := by
  cases hf : formOf s.params.cbY7Mnemonic i with
  | some f => rw [exec_eq_runForm hf, exec_eq_runForm (s := s.onStream m) hf, runForm_onStream f h]
  | none =>
    rcases formOf_none hf with ⟨sfx, rfl⟩ | ⟨x, rfl⟩ | rfl | rfl | rfl | ⟨op, hop⟩
    · exact withRead_onStream h fun _ => rfl
    · exact withRead_onStream h fun _ => rfl
    · exact execCbPrefix_onStream h
    · exact withRead_onStream h fun _ => rfl
    · exact withRead_onStream h fun _ => rfl
    · have hnone : formIgnored op = none := by rcases hop with rfl | rfl <;> exact hf
      rcases hop with rfl | rfl <;>
        simp [exec, execBaseIxIgnored, execBaseIyIgnored, runIgnored, hnone, withStream]

theorem runStep_onStream {s : State} {m : Memory} (h : (s.onStream m).read = s.read) :
    runStep (s.onStream m) = withStream m (runStep s) := by
  unfold runStep
  rw [nextInstr_onStream h]
  split
  · rfl
  · rfl
  · exact exec_onStream _ h

/-- A step of a running block with no request waiting is one read of the settled state. -/
theorem step_of_running {s : State} (hin : s.inbox = []) (hrun : s.runState = .running) : step s = runStep s.settled := by
  simp [step, hin, hrun]

/-- With no request waiting and no run active nothing happens (10_state.md R42; assumption log 9). -/
theorem step_of_inactive {s : State} (hin : s.inbox = []) (hrun : s.runState ≠ .running) : step s = .next s := by
  simp [step, hin, hrun]

/-- Settles O48: the one read of a step, at the cursor, is all it takes from the stream. -/
theorem stepDependsOnOneByte : Obligations.StepDependsOnOneByte := by
  intro s m hin hbyte
  change step (s.onStream m) = withStream m (step s)
  by_cases hrun : s.runState = .running
  · have hread : (s.settled.onStream m).read = s.settled.read := read_onStream (by simpa using hbyte)
    rw [step_of_running hin hrun, step_of_running (s := s.onStream m) hin hrun, settled_onStream, runStep_onStream hread]
  · rw [step_of_inactive hin hrun, step_of_inactive (s := s.onStream m) hin hrun]
    rfl

end Sys2Proof.Machine

namespace Sys2Proof

open Sys2Proof.Machine Sys2Proof.Claims

-- The row a byte selects, page by page

/-- A base row is well formed and has the byte that selects it as its opcode. -/
theorem opcode_classifyBase : ∀ b : Byte, isModeSelect b = false → b ≠ 0xDD → b ≠ 0xFD → b ≠ 0xED → b ≠ 0xCB →
    (classifyBase b).wellFormed = true ∧ opcode (classifyBase b) = some b := by
  decide

theorem opcode_classifyIndexed (x : IndexReg) : ∀ b : Byte, isModeSelect b = false → b ≠ 0xDD → b ≠ 0xFD → b ≠ 0xED →
    b ≠ 0xCB → (classifyIndexed x b).wellFormed = true ∧ opcode (classifyIndexed x b) = some b := by
  cases x <;> decide

theorem opcode_classifyCb : ∀ b : Byte, (classifyCb b).wellFormed = true ∧ opcode (classifyCb b) = some b := by
  decide

theorem opcode_classifyIndexCb (x : IndexReg) :
    ∀ b : Byte, (classifyIndexCb x b).wellFormed = true ∧ opcode (classifyIndexCb x b) = some b := by
  cases x <;> decide

theorem opcode_classifyEd : ∀ b : Byte, (classifyEd b).wellFormed = true ∧ opcode (classifyEd b) = some b := by
  decide

/-- A mode-select byte is rebuilt from the suffix it names (R107, R114). -/
theorem opcode_modeSelect :
    ∀ b : Byte, isModeSelect b = true → opcode (.modeSelect (suffixOf (fieldY b))) = some b := by
  decide

/-- The row a byte selects is well formed, and unless it is the PrefixOnly ending the byte is its opcode (R124). -/
theorem classify_own_byte (c : Ctx) (b : Byte) :
    (classify c b).wellFormed = true ∧ (classify c b ≠ .prefixOnly → opcode (classify c b) = some b) := by
  cases c with
  | cb => exact (opcode_classifyCb b).imp_right fun h _ => h
  | indexCb x => exact (opcode_classifyIndexCb x b).imp_right fun h _ => h
  | ed => exact (opcode_classifyEd b).imp_right fun h _ => h
  | base ms rs =>
    simp only [classify, classifyBasePosition]
    by_cases hms : isModeSelect b = true
    · rw [if_pos hms]
      cases ms with
      | true => exact ⟨rfl, fun h => absurd rfl h⟩
      | false => exact ⟨by simpa [Instr.wellFormed] using suffixOf_ne_none hms, fun _ => opcode_modeSelect b hms⟩
    rw [if_neg hms]
    by_cases hidx : b = 0xDD ∨ b = 0xFD
    · rw [if_pos hidx]
      split
      · exact ⟨rfl, fun h => absurd rfl h⟩
      · rcases hidx with rfl | rfl <;> exact ⟨rfl, fun _ => rfl⟩
    rw [if_neg hidx]
    by_cases hed : b = 0xED
    · rw [if_pos hed]
      split
      · exact ⟨rfl, fun h => absurd rfl h⟩
      · exact ⟨rfl, fun _ => by rw [hed]; rfl⟩
    rw [if_neg hed]
    by_cases hcb : b = 0xCB
    · rw [if_pos hcb]
      exact ⟨rfl, fun _ => by rw [hcb]; rfl⟩
    rw [if_neg hcb]
    obtain ⟨hdd, hfd⟩ := not_or.mp hidx
    have hplain := Bool.eq_false_iff.mpr hms
    cases rs with
    | hl => exact (opcode_classifyBase b hplain hdd hfd hed hcb).imp_right fun h _ => h
    | ix => exact (opcode_classifyIndexed .ix b hplain hdd hfd hed hcb).imp_right fun h _ => h
    | iy => exact (opcode_classifyIndexed .iy b hplain hdd hfd hed hcb).imp_right fun h _ => h

/-- The PrefixOnly ending is selected by a byte of a class of prefixes that was taken, or by ED after DD or FD (R113,
R116). -/
theorem classify_eq_prefixOnly_iff {c : Ctx} {b : Byte} :
    classify c b = .prefixOnly ↔ ∃ ms rs, c = .base ms rs ∧
      (ms = true ∧ isModeSelect b = true ∨ rs ≠ .hl ∧ (b = 0xDD ∨ b = 0xFD ∨ b = 0xED)) := by
  constructor
  · intro h
    have hadm := home_classify_admits c b
    rw [h] at hadm
    cases c with
    | base ms rs =>
      refine ⟨ms, rs, rfl, ?_⟩
      rcases classify_base ms rs b with ⟨hms, hc⟩ | ⟨hb, hc⟩ | ⟨hb, hc⟩ | ⟨-, hc⟩ | ⟨-, hc⟩ <;> rw [h] at hc
      · cases ms with
        | true => exact .inl ⟨rfl, hms⟩
        | false => cases hc
      · refine .inr ⟨fun hrs => ?_, by tauto⟩
        simp [hrs] at hc
      · refine .inr ⟨fun hrs => ?_, by tauto⟩
        simp [hrs] at hc
      · cases hc
      · cases rs <;> cases hc
    | cb | indexCb | ed => cases hadm
  · rintro ⟨ms, rs, rfl, ⟨rfl, hms⟩ | ⟨hrs, hb⟩⟩
    · simp [classify, classifyBasePosition, hms]
    · cases rs with
      | hl => exact absurd rfl hrs
      | ix | iy => rcases hb with rfl | rfl | rfl <;> rfl

/-- Settles O52: the row is of a table of the context and has the byte as its opcode, unless
the byte's class of prefixes was taken before. -/
theorem everyByteSelectsOneRow : Obligations.EveryByteSelectsOneRow := fun c b =>
  ⟨(classify_own_byte c b).1, home_classify_admits c b, (classify_own_byte c b).2, classify_eq_prefixOnly_iff⟩

/-- A table whose rows an opcode byte selects; the other tables hold the prefixes and their ending. -/
def Home.isPage : Home → Bool
  | .modeSelect | .indexPrefix | .cbPrefix | .edPrefix | .prefixOnly => false
  | .base | .baseIndexed _ | .cb | .indexCb _ | .ed => true

/-- The context in which a row of a page is read, with or without a mode-select before it (R110, R118). -/
def Home.ctx (ms : Bool) : Home → Ctx
  | .modeSelect | .indexPrefix | .cbPrefix | .edPrefix | .prefixOnly | .base => .base ms .hl
  | .baseIndexed .ix => .base ms .ix
  | .baseIndexed .iy => .base ms .iy
  | .cb => .cb
  | .indexCb x => .indexCb x
  | .ed => .ed

/-- A page is read in its own context only. -/
theorem Home.admits_iff {h : Home} {c : Ctx} (hpage : h.isPage = true) : h.admits c = true ↔ ∃ ms, c = h.ctx ms := by
  cases h with
  | modeSelect | indexPrefix | cbPrefix | edPrefix | prefixOnly => cases hpage
  | baseIndexed x => cases x <;> cases c <;> simp [admits, ctx]
  | indexCb x =>
    cases c with
    | indexCb y => simpa [admits, ctx] using eq_comm
    | base | cb | ed => simp [admits, ctx]
  | base | cb | ed => cases c <;> simp [admits, ctx]

/-- The bytes of R301 select the unchanged row under DD and FD. -/
theorem classify_indexInsensitive : ∀ b : Byte, indexInsensitive b = true →
    ∀ ms, classify (.base ms .ix) b = .baseIxIgnored b ∧ classify (.base ms .iy) b = .baseIyIgnored b := by
  decide

/-- Every z but 6 is unrepresented on the indexed-CB pages (R374). -/
theorem classify_unrepIndexCb : ∀ b : Byte, (b &&& 7 != 6) = true →
    classify (.indexCb .ix) b = .unrepIxCb b ∧ classify (.indexCb .iy) b = .unrepIyCb b := by
  decide

/-- The bytes of R442 are unrepresented on the ED page. -/
theorem classify_unrepEd : ∀ b : Byte, unrepresentedEd b = true → classify .ed b = .unrepEd b := by
  decide

/-- The bytes of R507 are unrepresented in the block tables. -/
theorem classify_unrepEdBlock : ∀ b : Byte, unrepresentedEdBlock b = true → classify .ed b = .unrepEdBlock b := by
  decide

/-- Every well-formed row of a page is selected by its own opcode byte (R111, R118). -/
theorem classify_opcode_of_isPage {i : Instr} {b : Byte} (hpage : (home i).isPage = true) (hw : i.wellFormed = true)
    (hb : opcode i = some b) (ms : Bool) : classify ((home i).ctx ms) b = i := by
  cases i
  case modeSelect | indexPrefix | cbPrefix | edPrefix | prefixOnly => cases hpage
  all_goals
    cases hb
    clear hpage
    simp only [home, Home.ctx]
  case baseIxIgnored => exact (classify_indexInsensitive b hw ms).1
  case baseIyIgnored => exact (classify_indexInsensitive b hw ms).2
  case unrepIxCb => exact (classify_unrepIndexCb b hw).1
  case unrepIyCb => exact (classify_unrepIndexCb b hw).2
  case unrepEd => exact classify_unrepEd b hw
  case unrepEdBlock => exact classify_unrepEdBlock b hw
  case jrCc cc => cases cc <;> revert hw ms <;> decide
  case ldRR dst src | ldIxHalves dst src | ldIyHalves dst src => cases dst <;> cases src <;> revert hw ms <;> decide
  case ldRrIxd rr | ldRrIyd rr | ldIxdRr rr | ldIydRr rr => cases rr <;> revert hw ms <;> decide
  case ldRIxd r | ldRIyd r | ldIxdR r | ldIydR r | in0RN r | out0NR r | inRC r | outCR r =>
    cases r <;> revert hw ms <;> decide
  all_goals clear hw
  case incR r | decR r | ldRN r | addAR r | adcAR r | subAR r | sbcAR r | andAR r | xorAR r | orAR r | cpAR r =>
    cases r <;> rfl
  case rlcR r | rrcR r | rlR r | rrR r | slaR r | sraR r | sllR r | srlR r | tstAR r => cases r <;> rfl
  case retCc cc | jpCcNn cc | callCcNn cc => cases cc <;> rfl
  case popQq qq | pushQq qq => cases qq <;> rfl
  case ldRrNn rr | addHlRr rr | incRr rr | decRr rr | addIxRr rr | addIyRr rr => cases rr <;> rfl
  case sbcHlRr rr | adcHlRr rr | ldMemRr rr | ldRrMem rr | mltRr rr => cases rr <;> rfl
  case leaRrIxd rr | leaRrIyd rr | ldRrIndHl rr | ldIndHlRr rr => cases rr <;> rfl
  case rst t => revert t ms; decide
  case bitBR t r | resBR t r | setBR t r => cases r <;> (revert t; decide)
  case bitBIxd t | resBIxd t | setBIxd t | bitBIyd t | resBIyd t | setBIyd t => revert t; decide
  case aluAIxHalf g h | aluAIyHalf g h => cases g <;> cases h <;> rfl
  case aluAIxd g | aluAIyd g => cases g <;> rfl
  case incIxHalf h | incIyHalf h | decIxHalf h | decIyHalf h | ldIxHalfN h | ldIyHalfN h =>
    cases h <;> rfl
  all_goals rfl

/-- The rows outside the pages are those of the prefixes and of the PrefixOnly ending. -/
theorem prefixRow_of_not_isPage {i : Instr} (h : (home i).isPage = false) :
    (∃ sfx, i = .modeSelect sfx) ∨ (∃ x, i = .indexPrefix x) ∨ i = .cbPrefix ∨ i = .edPrefix ∨ i = .prefixOnly := by
  cases i
  case modeSelect | indexPrefix | cbPrefix | edPrefix | prefixOnly => simp
  all_goals cases h

/-- A row that has a form stands on a page. -/
theorem isPage_of_form {k : CbY7Mnemonic} {i : Instr} {f : Form} (h : formOf k i = some f) :
    (home i).isPage = true := by
  cases hpage : (home i).isPage with
  | true => rfl
  | false => rcases prefixRow_of_not_isPage hpage with ⟨_, rfl⟩ | ⟨_, rfl⟩ | rfl | rfl | rfl <;> cases h

/-- Every row of a page has an opcode byte. -/
theorem exists_opcode_of_isPage {i : Instr} (h : (home i).isPage = true) : ∃ b, opcode i = some b := by
  cases i
  case modeSelect | indexPrefix | cbPrefix | edPrefix | prefixOnly => cases h
  all_goals exact ⟨_, rfl⟩

/-- A row's opcode byte selects it in every context that admits it (R124). -/
theorem classify_opcode {i : Instr} {c : Ctx} {b : Byte} (hw : i.wellFormed = true) (ha : (home i).admits c = true)
    (hb : opcode i = some b) : classify c b = i := by
  cases hpage : (home i).isPage with
  | true =>
    obtain ⟨ms, rfl⟩ := (Home.admits_iff hpage).mp ha
    exact classify_opcode_of_isPage hpage hw hb ms
  | false =>
    cases c with
    | cb | indexCb | ed => rcases prefixRow_of_not_isPage hpage with ⟨_, rfl⟩ | ⟨_, rfl⟩ | rfl | rfl | rfl <;> cases ha
    | base ms rs =>
      rcases prefixRow_of_not_isPage hpage with ⟨sfx, rfl⟩ | ⟨x, rfl⟩ | rfl | rfl | rfl
      · obtain rfl : ms = false := by simpa [home, Home.admits] using ha
        cases hb
        cases sfx with
        | none => cases hw
        | sis | lis | sil | lil => rfl
      · obtain rfl : rs = .hl := by simpa [home, Home.admits] using ha
        cases x <;> cases hb <;> rfl
      · cases hb
        rfl
      · obtain rfl : rs = .hl := by simpa [home, Home.admits] using ha
        cases hb
        rfl
      · cases hb

/-- A byte that selects no PrefixOnly ending is consumed by the row it selects. -/
theorem decode_of_classify {i : Instr} {c : Ctx} {b : Byte} (h : classify c b = i) (hi : i ≠ .prefixOnly)
    (rest : List Byte) : decode c (b :: rest) = .ok (i, rest) := by
  subst h
  simp only [decode]

-- The chain of prefixes

/-- A row of a page ends the chain of prefixes. -/
theorem ctxAfter_of_isPage {i : Instr} (h : (home i).isPage = true) (pol : DdcbPolicy) (c : Ctx) :
    ctxAfter pol c i = none := by
  unfold ctxAfter
  split
  case h_5 => rfl
  all_goals cases h

/-- A mode-select before the other bytes is recorded in the context (R114). -/
theorem decodeChain_modeSelect (pol : DdcbPolicy) (sfx : Suffix) (bs : List Byte) :
    decodeChain pol (.base false .hl) ((modeSelectByte sfx).toList ++ bs) =
      decodeChain pol (.base (sfx != .none) .hl) bs := by
  cases sfx <;> rfl

/-- The bytes of a page before the opcode lead to the context of the page (R115 to R117). -/
theorem decodeChain_leadBytes {h : Home} {pol : DdcbPolicy} (hpage : h.isPage = true)
    (hpol : pol = .indexed ∨ ∀ x, h ≠ .indexCb x) (d : Byte) (ms : Bool) (bs : List Byte) :
    decodeChain pol (.base ms .hl) (leadBytes d h ++ bs) = decodeChain pol (h.ctx ms) bs := by
  cases h with
  | modeSelect | indexPrefix | cbPrefix | edPrefix | prefixOnly => cases hpage
  | base | cb | ed => rfl
  | baseIndexed x => cases x <;> rfl
  | indexCb x =>
    obtain rfl : pol = .indexed := hpol.resolve_right fun hne => hne x rfl
    cases x <;> rfl

/-- The opcode byte of a row of a page ends the chain at that row. -/
theorem decodeChain_opcode {c : Ctx} {i : Instr} {b : Byte} (hc : classify c b = i) (hpage : (home i).isPage = true)
    (pol : DdcbPolicy) (rest : List Byte) : decodeChain pol c (b :: rest) = .ok (c, i, rest) := by
  have hi : i ≠ .prefixOnly := by
    rintro rfl
    cases hpage
  simp [decodeChain, hc, ctxAfter_of_isPage hpage, hi]

/-- Settles O53: the prefixes lead to the row's context, and there the opcode byte selects the row. -/
theorem decodeOfEncodeIsTheRow : Obligations.DecodeOfEncodeIsTheRow := by
  constructor
  · intro i c b rest hw ha hb
    refine decode_of_classify (classify_opcode hw ha hb) ?_ rest
    rintro rfl
    cases hb
  · intro i d sfx pol rest hw hform hpol
    obtain ⟨f, hf⟩ := Option.ne_none_iff_exists'.mp hform
    have hpage := isPage_of_form hf
    have hadm := (Home.admits_iff hpage).mpr ⟨sfx != .none, rfl⟩
    obtain ⟨b, hb⟩ := exists_opcode_of_isPage hpage
    refine ⟨_, hadm, ?_⟩
    rw [encodeWith, hb, List.append_assoc, List.append_assoc, decodeChain_modeSelect, decodeChain_leadBytes hpage hpol]
    exact decodeChain_opcode (classify_opcode hw hadm hb) hpage pol rest

end Sys2Proof

namespace Sys2Proof.Machine

open Sys2Proof.Claims

-- The rows of the prefixes

/-- The byte at the cursor, as a statement's premise gives it. -/
theorem read_of_holds {s : State} {b : Byte} {bs : List Byte} (h : Holds s s.cursor (b :: bs)) : s.read = some b :=
  read_some_iff.mpr ⟨h.1, h.2.1⟩

/-- A mode-select is accepted and sets the suffix (R114). -/
theorem exec_modeSelect {s : State} {b : Byte} (sfx : Suffix) (hrun : s.runState = .running) (hb : s.read = some b) :
    exec (.modeSelect sfx) s = .next (s.prefixTaken b sfx s.regSet .afterModeSelect) :=
  withRead_some _ hrun hb

/-- DD and FD are accepted and set the register set (R115). -/
theorem exec_indexPrefix {s : State} {b : Byte} (x : IndexReg) (hrun : s.runState = .running) (hb : s.read = some b) :
    exec (.indexPrefix x) s = .next (s.prefixTaken b s.suffix (regSetOf x) (phaseAfterIndex x)) :=
  withRead_some _ hrun hb

/-- ED is accepted (R116). -/
theorem exec_edPrefix {s : State} {b : Byte} (hrun : s.runState = .running) (hb : s.read = some b) :
    exec .edPrefix s = .next (s.prefixTaken b s.suffix s.regSet .afterED) :=
  withRead_some _ hrun hb

/-- CB is accepted; the displacement comes first under DD or FD with the policy Indexed (R117, R362). -/
theorem exec_cbPrefix {s : State} {b : Byte} (hrun : s.runState = .running) (hb : s.read = some b)
    (hp : s.phase ≠ .afterIndexCB) :
    exec .cbPrefix s = .next (s.prefixTaken b s.suffix s.regSet
      (if s.regSet ≠ .hl ∧ s.params.ddcbPolicy = .indexed then .afterIndexCB else .afterCB)) := by
  refine (withRead_some _ hrun hb).trans ?_
  rw [if_neg hp]
  split <;> rfl

/-- In phase AfterIndexCB the CB row reads the displacement (R362). -/
theorem exec_cbPrefix_afterIndexCB {s : State} {b : Byte} (hrun : s.runState = .running) (hb : s.read = some b)
    (hp : s.phase = .afterIndexCB) : exec .cbPrefix s = .next (s.latchD b) :=
  (withRead_some _ hrun hb).trans (if_pos hp)

/-- The PrefixOnly ending accepts nothing (R113). -/
theorem exec_prefixOnly {s : State} {b : Byte} (hrun : s.runState = .running) (hb : s.read = some b) :
    exec .prefixOnly s = .next (s.finish .prefixOnly none "") :=
  withRead_some _ hrun hb

/-- The PrefixOnly record, as the statements write it. -/
theorem finish_prefixOnly_eq_completedBy (s : State) : s.finish .prefixOnly none "" =
    completedBy s 0 (recordAfter s [] s.op s.page s.d s.n s.w s.e .prefixOnly none "") := by
  simp [State.finish, completedBy, recordAfter, State.record, State.byteLength]

-- Where a row of the prefixes can stand

/-- The mode-select bytes (R114). -/
theorem isModeSelect_iff :
    ∀ b : Byte, isModeSelect b = true ↔ ∃ y : Fin 8, y < 4 ∧ b = BitVec.ofNat 8 (0x40 + 9 * y.val) := by
  decide

/-- What a mode-select byte selects in base-page position (R113, R114). -/
theorem classify_modeSelect (ms : Bool) (rs : RegSet) {b : Byte} (h : isModeSelect b = true) :
    classify (.base ms rs) b = if ms then .prefixOnly else .modeSelect (suffixOf (fieldY b)) :=
  if_pos h

/-- A row that only base-page position admits is selected there only. -/
theorem ctx_base_of_classify {c : Ctx} {b : Byte} {i : Instr} (h : classify c b = i) (hi : pageOf (home i) = .base) :
    ∃ ms rs, c = .base ms rs := by
  have hpage := (pageIn_of_classify h).trans hi
  cases c with
  | base ms rs => exact ⟨ms, rs, rfl⟩
  | cb | indexCb | ed => cases hpage

/-- A row other than the PrefixOnly ending is selected by its opcode byte alone. -/
theorem eq_of_classify {c : Ctx} {b o : Byte} {i : Instr} (h : classify c b = i) (ho : opcode i = some o) : b = o := by
  have hi : classify c b ≠ .prefixOnly := by
    rintro hp
    rw [← h, hp] at ho
    cases ho
  have hb := (classify_own_byte c b).2 hi
  rw [h, ho] at hb
  exact (Option.some.inj hb).symm

/-- In a phase of base-page position the context is that of the registers (R112). -/
theorem ctx_of_base_phase {s : State} (h : s.phase = .noPrefix ∨ s.phase = .afterModeSelect ∨ s.phase = .afterDD ∨
    s.phase = .afterFD) : s.ctx = .base s.msSeen s.regSet := by
  rcases h with h | h | h | h <;> simp [State.ctx, h]

/-- No load of B, C, D or E to itself is selected: its byte is a mode-select (R114). -/
theorem classify_ne_self_load {c : Ctx} {b : Byte} {r : Reg8} (hr : r = .b ∨ r = .c ∨ r = .d ∨ r = .e) :
    classify c b ≠ .ldRR r r := by
  intro h
  have hw := (classify_own_byte c b).1
  rw [h] at hw
  rcases hr with rfl | rfl | rfl | rfl <;> cases hw

/-- A row that makes one read faults on an unreadable byte. -/
theorem faults_of_withRead {i : Instr} {k : State → Byte → Host.Outcome State Fault Refusal}
    (h : ∀ s, exec i s = withRead s (k s)) : Faults i :=
  faults_of_exec fun s hrun hr => (h s).trans (withRead_none _ hrun hr)

/-- Settles O24: the mode-select bytes, by classification, and the read of one. -/
theorem modeSelectRow : Obligations.ModeSelectRow := by
  refine ⟨?_, ?_, fun sfx s b hrun hb => exec_modeSelect sfx hrun (read_of_holds hb),
    fun s hp => ctx_of_base_phase (.inr (.inl hp)), fun ms => ⟨rfl, rfl, rfl, rfl⟩,
    fun ms rs b r => classify_ne_self_load, rfl, rfl, fun sfx => faults_of_withRead fun _ => rfl⟩
  · intro y hy rs
    have hms := (isModeSelect_iff _).mpr ⟨y, hy, rfl⟩
    refine ⟨(classify_modeSelect false rs hms).trans ?_, classify_modeSelect true rs hms⟩
    revert y
    decide
  · intro c b sfx h
    obtain ⟨ms, rs, rfl⟩ := ctx_base_of_classify h rfl
    exact (isModeSelect_iff b).mp (classify_eq_modeSelect h).2.1

/-- Settles O25: the bytes DD and FD, by classification, and the read of one. -/
theorem indexPrefixRow : Obligations.IndexPrefixRow := by
  refine ⟨fun _ => ⟨rfl, rfl⟩, ?_,
    fun s b hrun hb => ⟨exec_indexPrefix .ix hrun (read_of_holds hb), exec_indexPrefix .iy hrun (read_of_holds hb)⟩,
    fun s hp => ctx_of_base_phase (.inr (.inr hp)), fun _ => faults_of_withRead fun _ => rfl⟩
  intro c b x h
  cases x with
  | ix => exact .inl ⟨eq_of_classify h rfl, rfl⟩
  | iy => exact .inr ⟨eq_of_classify h rfl, rfl⟩

/-- Settles O26: the byte ED, by classification, and the read of it. -/
theorem edPrefixRow : Obligations.EdPrefixRow := by
  refine ⟨fun ms => rfl, fun c b h => eq_of_classify h rfl, ?_,
    fun s b hrun hb => exec_edPrefix hrun (read_of_holds hb),
    fun s hp => by simp [State.ctx, hp], faults_of_withRead fun _ => rfl⟩
  intro ms rs hrs
  exact classify_eq_prefixOnly_iff.mpr ⟨ms, rs, rfl, .inr ⟨hrs, .inr (.inr rfl)⟩⟩

/-- The rows of the CB page have no operand (R117, R350). -/
theorem cb_form {k : CbY7Mnemonic} {b : Byte} {f : Form} (hf : formOf k (classify .cb b) = some f) :
    f.recipe = .none ∧ f.page = .cb := by
  obtain ⟨hpage, hrecipe, -⟩ := Form.fits_iff.mp (classify_form_fits hf)
  exact ⟨by simpa [pageIn] using hrecipe, hpage⟩

-- The row of a step

/-- Outside the operands and the displacement of an indexed CB, the byte at the cursor selects the row (R110, R118). -/
theorem nextInstr_of_read {s : State} (hp : s.phase ≠ .operands) (hd : s.phase = .afterIndexCB → s.d ≠ none) :
    s.nextInstr = .ok (s.read.map (classify s.ctx)) := by
  unfold State.nextInstr
  split
  · rename_i h
    exact absurd h hp
  · rename_i h
    rw [if_neg (hd h)]
  all_goals rfl

/-- The displacement of an indexed CB is the CB row's (R362). -/
theorem nextInstr_displacement {s : State} (hp : s.phase = .afterIndexCB) (hd : s.d = none) :
    s.nextInstr = .ok (some .cbPrefix) := by
  simp [State.nextInstr, hp, hd]

/-- While operands are fetched the row is the latched one (R111). -/
theorem nextInstr_operands {s : State} {p : Page} {o : Byte} (hp : s.phase = .operands) (hpage : s.page = some p)
    (hop : s.op = some o) : s.nextInstr = .ok (some (classify (latchedCtx p s.regSet) o)) := by
  simp [State.nextInstr, hp, hpage, hop]

@[simp] theorem State.settled_read (s : State) : s.settled.read = s.read := by
  simp [State.read]

/-- A step of a running block is the meaning of the row its read belongs to (R708). -/
theorem step_of_row {s : State} {i : Instr} (hin : s.inbox = []) (hrun : s.runState = .running)
    (hi : s.settled.nextInstr = .ok (some i)) : step s = exec i s.settled := by
  rw [step_of_running hin hrun, runStep, hi]

/-- A step at a selecting byte. -/
theorem step_of_selector {s : State} {b : Byte} (hin : s.inbox = []) (hrun : s.runState = .running)
    (hp : s.settled.phase ≠ .operands) (hd : s.settled.phase = .afterIndexCB → s.settled.d ≠ none)
    (hb : s.read = some b) : step s = exec (classify s.settled.ctx b) s.settled :=
  step_of_row hin hrun (by rw [nextInstr_of_read hp hd, State.settled_read, hb]; rfl)

/-- Settles O29: the row of the read, phase by phase. -/
theorem stepRunsTheDecodedRow : Obligations.StepRunsTheDecodedRow := by
  intro s hin hrun
  refine ⟨fun b hp hd hb => ⟨step_of_selector hin hrun hp hd (read_of_holds hb), (classify_own_byte _ b).1⟩, ?_, ?_, ?_,
    State.settled_eq_self, State.settled_eq_beginInstr⟩
  · intro hp hd hr
    have hnone : s.read = none := read_none_iff.mpr hr
    rw [step_of_running hin hrun, runStep, nextInstr_of_read hp hd, State.settled_read, hnone]
    rfl
  · intro hp hd
    have hself : s.settled = s := State.settled_eq_self (by simp [hp])
    rw [step_of_row hin hrun (hself ▸ nextInstr_displacement hp hd), hself]
  · intro p o hp hpage hop
    have hself : s.settled = s := State.settled_eq_self (by simp [hp])
    rw [step_of_row hin hrun (hself ▸ nextInstr_operands hp hpage hop), hself]
    exact ⟨rfl, (classify_own_byte _ o).1⟩

/-- Settles O27: CB is classified by its byte alone, and its row reads the displacement where the policy
asks for one. -/
theorem cbPrefixRow : Obligations.CbPrefixRow := by
  refine ⟨fun ms rs => rfl, fun c b h => eq_of_classify h rfl, ?_, fun s hp => by simp [State.ctx, hp],
    fun k b f => cb_form, ?_, ?_, ?_, ?_, faults_cbPrefix⟩
  · intro s b hrun hp hb
    rw [exec_cbPrefix hrun (read_of_holds hb) hp]
    refine ⟨fun h => ?_, fun hrs hpol => ?_⟩
    · rw [if_neg (by rcases h with h | h <;> simp [h])]
      rfl
    · rw [if_pos ⟨hrs, hpol⟩]
      rfl
  · intro s v hrun hp hb
    rw [exec_cbPrefix_afterIndexCB hrun (read_of_holds hb) hp, State.latchD, sext8_eq_toInt]
    rfl
  · intro s hp hin hrun
    have hself : s.settled = s := State.settled_eq_self (by simp [hp])
    refine ⟨fun hd => ?_, fun x b hd hx hb => ?_⟩
    · rw [step_of_row hin hrun (hself ▸ nextInstr_displacement hp hd), hself]
    · have hctx : s.ctx = .indexCb x := by simp [State.ctx, hp, hx]
      have hstep := step_of_selector hin hrun (by simp [hself, hp]) (by simp [hself, hd]) (read_of_holds hb)
      rw [hstep, hself, hctx]
  · intro x
    cases x <;> decide
  · intro x
    cases x <;> decide

/-- Settles O28: in base-page position past one of the prefixes, a byte of a class already taken selects the PrefixOnly
ending. -/
theorem prefixOnlyEnding : Obligations.PrefixOnlyEnding := by
  refine ⟨fun s b hrun hb => ?_, faults_of_withRead fun _ => rfl, ?_⟩
  · rw [exec_prefixOnly hrun (read_of_holds hb), finish_prefixOnly_eq_completedBy]
  · intro s b hs hin hrun hphase hb htaken
    obtain ⟨hcomplete, hop, hcb⟩ : s.phase ≠ .complete ∧ s.phase ≠ .operands ∧ s.phase ≠ .afterIndexCB := by
      rcases hphase with h | h | h <;> simp [h]
    have hself : s.settled = s := State.settled_eq_self hcomplete
    have hctx : s.ctx = .base s.msSeen s.regSet := ctx_of_base_phase (.inr hphase)
    have hrow : classify s.ctx b = .prefixOnly :=
      classify_eq_prefixOnly_iff.mpr ⟨_, _, hctx, htaken.imp_left (by simp [State.msSeen])⟩
    have hstep : step s = .next (s.finish .prefixOnly none "") := by
      rw [step_of_selector hin hrun (by rwa [hself]) (by simp [hself, hcb]) (read_of_holds hb), hself, hrow,
        exec_prefixOnly hrun (read_of_holds hb)]
    have hlen : s.byteLength = s.prefixCount := by
      have hshape := hs.running_shape hrun
      rcases hphase with h | h | h <;> (simp only [State.Shape, h] at hshape; exact hshape.1)
    have hle := prefixCount_le s
    have hge := one_le_prefixCount (s := s) (htaken.imp And.left And.left)
    refine ⟨_, rfl, by rw [hstep, finish_prefixOnly_eq_completedBy], by omega, ?_⟩
    rw [← finish_prefixOnly_eq_completedBy, State.settled_eq_beginInstr (by rfl)]
    exact ⟨rfl, rfl, rfl⟩

/-- Where a row comes from: the latch, CB before its displacement, or the byte at the cursor (R110 to R118). -/
theorem nextInstr_source {s : State} {i : Instr} (h : s.nextInstr = .ok (some i)) :
    (s.phase = .operands ∧ ∃ c o, i = classify c o) ∨ i = .cbPrefix ∨ ∃ b, s.read = some b := by
  cases hr : s.read with
  | some b => exact .inr (.inr ⟨b, rfl⟩)
  | none =>
    unfold State.nextInstr at h
    rw [hr] at h
    split at h
    · rename_i hp
      split at h
      · cases h
        exact .inl ⟨hp, _, _, rfl⟩
      · cases h
    · split at h
      · cases h
        exact .inr (.inl rfl)
      · cases h
    all_goals cases h

/-- The row of every read is well formed. -/
theorem nextInstr_wellFormed {s : State} {i : Instr} (h : s.nextInstr = .ok (some i)) : i.wellFormed = true := by
  rcases nextInstr_source h with ⟨-, c, o, rfl⟩ | rfl | ⟨b, hb⟩
  · exact (classify_own_byte c o).1
  · rfl
  · rcases nextInstr_cases h hb with ⟨-, p, o, -, -, rfl⟩ | ⟨-, -, rfl⟩ | ⟨-, -, rfl⟩
    · exact (classify_own_byte _ o).1
    · rfl
    · exact (classify_own_byte _ b).1

/-- At a selecting byte a running block is at the opcode of the row's page, with a displacement for an
indexed CB alone. -/
theorem State.AtSelector.atOpcode {s : State} (h : s.AtSelector) (hrun : s.runState = .running) {p : Page}
    (hp : p = pageIn s.ctx) : AtOpcode s p ∧ (s.d ≠ none ↔ p = .indexCb) := by
  subst hp
  refine ⟨⟨hrun, h.not_operands, h.length_eq⟩, fun hd => not_not.mp fun hne => hd (h.d_none hne),
    fun hpage => h.displaced ?_⟩
  cases hp : s.phase with
  | afterIndexCB => rfl
  | _ => simp [State.ctx, hp, pageIn] at hpage

/-- Settles O30: the row's form fits the page of the context, and the shape of the phase puts the block
at its opcode. -/
theorem rowsRunAtTheirOpcode : Obligations.RowsRunAtTheirOpcode := by
  intro s i hs hrun hi
  refine ⟨nextInstr_wellFormed hi, fun f hf hp => ?_⟩
  have hinv := settled_inv hs
  have hgoes : s.settled.runState = .running := by simpa using hrun
  have hnc := State.settled_phase_ne_complete s
  obtain ⟨b, hb⟩ : ∃ b, s.settled.read = some b := by
    rcases nextInstr_source hi with ⟨hop, -⟩ | rfl | hb
    · exact absurd hop hp
    · cases hf
    · exact hb
  have hf' : formOf s.settled.params.cbY7Mnemonic i = some f := by simpa using hf
  obtain ⟨hsel, hc⟩ := (hinv.atByte hgoes hnc hi hb).selector hf' hp
  obtain ⟨hat, hd⟩ := hsel.atOpcode hgoes (Form.fits_iff.mp (classify_form_fits (hc ▸ hf))).1
  exact ⟨hat, hd, hinv.running_latches hgoes hnc⟩

-- Contiguous records

/-- Records follow each other as long as nothing is emitted and the place where the next one starts stays. -/
theorem State.Contiguous.of_open {s u : State} (h : s.Contiguous) (hs : s.phase ≠ .complete) (hu : u.phase ≠ .complete)
    (hemitted : u.emitted = s.emitted) (hstart : u.startAddress = s.startAddress) : u.Contiguous := by
  unfold State.Contiguous at *
  rw [hemitted, hstart, if_neg hu]
  rwa [if_neg hs] at h

/-- An instruction start is where the last record ended (R141). -/
theorem State.Contiguous.settled {s : State} (h : s.Contiguous) : s.settled.Contiguous := by
  by_cases hp : s.phase = .complete
  · obtain ⟨hchain, hlast⟩ := h
    rw [State.settled_eq_beginInstr hp]
    exact ⟨hchain, fun r hr => by simpa [hp] using hlast r hr⟩
  · rwa [State.settled_eq_self hp]

/-- A record of the instruction in progress follows the last one, and ends at the cursor. -/
theorem State.Contiguous.finish {s : State} (h : s.Contiguous) (hp : s.phase ≠ .complete)
    (hcursor : s.cursor = s.startAddress + BitVec.ofNat 24 s.byteLength) (kind : Kind) (form : Option Nat)
    (text : String) : (s.finish kind form text).Contiguous := by
  obtain ⟨hchain, hlast⟩ := h
  constructor
  · rw [State.finish_emitted, List.isChain_append]
    refine ⟨hchain, .singleton _, fun r hr q hq => ?_⟩
    obtain rfl : s.record kind form text = q := by simpa using hq
    exact ((hlast r hr).trans (if_neg hp)).symm
  · intro r hr
    obtain rfl : s.record kind form text = r := by simpa using hr
    simpa [State.record] using hcursor.symm

/-- A run start has no records yet (R701). -/
theorem startRun_contiguous (s : State) (width : ExecWidth) (start : Addr) (count : Int) :
    (s.startRun width start count).Contiguous := by
  simp [State.Contiguous]

/-- The last byte of a row leaves phase Operands until the record is made. -/
theorem LastByte.phase_eq {s u : State} {b : Byte} {f : Form} (h : LastByte f s b u) : u.phase = .operands := by
  cases h with
  | opcode => rfl
  | operand hp => exact hp

/-- A byte read keeps the records contiguous. -/
theorem ReadsTo.contiguous {s t : State} {b : Byte} {i : Instr} (h : ReadsTo s b i t) (hp : s.phase ≠ .complete)
    (hs : s.Contiguous) (ht : t.Inv) : t.Contiguous := by
  cases h with
  | goesOn hu => exact hs.of_open hp (hu.latches hp).1 hu.accepted.emitted hu.accepted.startAddress
  | completes hf hu hc =>
    have hopen : _ ≠ Phase.complete := hu.phase_eq.trans_ne nofun
    have hu' := hs.of_open hp hopen hu.accepted.emitted hu.accepted.startAddress
    rcases complete_next hc with ⟨-, rfl⟩ | ⟨_, _, _, -, -, rfl⟩
    · exact hu'.finish hopen ht.cursor_eq _ _ _
    · exact hu'.finish hopen ht.cursor_eq _ _ _
  | endsPrefixOnly => exact hs.finish hp ht.cursor_eq _ _ _

/-- Settles O44: a record is made of the instruction in progress, which starts where the last one ended. -/
theorem recordsAreContiguous : Obligations.RecordsAreContiguous := by
  intro s t hs hcontig h
  cases hin : s.inbox with
  | nil =>
    rcases step_reads hin h with ⟨-, rfl⟩ | ⟨hrun, ⟨-, rfl⟩ | ⟨i, b, hi, hb, hread⟩⟩
    · exact hcontig
    · exact hcontig.settled
    · exact hread.contiguous (State.settled_phase_ne_complete s) hcontig.settled (stepKeepsTheInvariant s t hs h)
  | cons ev rest =>
    rw [step_request hin] at h
    obtain ⟨hidle, ⟨a, c, f, width, rfl, -, -, -, rfl⟩ | ⟨p, rfl, rfl⟩ | ⟨a, b, rfl, rfl⟩⟩ := serveHost_next h
    · exact startRun_contiguous _ _ _ _
    · exact hcontig
    · exact hcontig

-- The length of a record

/-- A base row has a text. -/
theorem baseForm_body_ne_none {i : Instr} {f : Form} (h : baseForm i = some f) : f.body ≠ none := by
  cases i
  all_goals cases h <;> nofun

/-- An unrepresented row fetches no operand (R123). -/
theorem recipe_of_body_none {k : CbY7Mnemonic} {i : Instr} {f : Form} (hf : formOf k i = some f) (hb : f.body = none) :
    f.recipe = .none := by
  cases i
  case baseIxIgnored op | baseIyIgnored op =>
    obtain ⟨g, hg, rfl⟩ := Option.map_eq_some_iff.mp hf
    exact absurd hb (baseForm_body_ne_none (f := g) hg)
  case unrepIxCb | unrepIyCb | unrepEd | unrepEdBlock => cases hf; rfl
  all_goals cases hf <;> cases hb

/-- The bytes of an instruction whose operands are all read: the prefixes taken, the byte of the page, the opcode,
and the bytes of each operand that is present (R119 to R122). -/
def State.Counted (s : State) : Prop :=
  s.byteLength = s.prefixCount + (if s.page = some .base then 0 else 1) + 1 +
    s.d.isSome.toNat + s.n.isSome.toNat + s.e.isSome.toNat + s.w.isSome.toNat * (if s.wordIsLong then 3 else 2)

/-- No operand is present but the displacement of an indexed CB (R123). -/
def State.NoOperand (s : State) : Prop :=
  s.n = none ∧ s.w = none ∧ s.e = none ∧ (s.d ≠ none ↔ s.page = some .indexCb)

/-- The opcode byte of a row without operands. -/
theorem State.AtSelector.opcodeTaken_counted {s : State} (h : s.AtSelector) (hrun : s.runState = .running)
    (hlatches : s.n = none ∧ s.w = none ∧ s.e = none) {p : Page} (hp : p = pageIn s.ctx) (b : Byte) :
    (s.opcodeTaken p b).Counted ∧ (s.opcodeTaken p b).NoOperand := by
  obtain ⟨hat, hd⟩ := h.atOpcode hrun hp
  obtain ⟨hn, hw, he⟩ := hlatches
  refine ⟨?_, hn, hw, he, hd.trans (by simp [State.opcodeTaken])⟩
  have hpage : pageBytes p = (if some p = some Page.base then 0 else 1) + s.d.isSome.toNat := by
    clear hp hat
    cases hsd : s.d <;> cases p <;> simp_all [pageBytes]
  have hlen : (s.opcodeTaken p b).byteLength = s.prefixCount + pageBytes p + 1 := by
    rw [← hat.length_eq]
    exact State.accept_byteLength s b
  unfold State.Counted
  rw [hlen]
  change s.prefixCount + pageBytes p + 1 = s.prefixCount + (if some p = some Page.base then 0 else 1) + 1 +
    s.d.isSome.toNat + s.n.isSome.toNat + s.e.isSome.toNat + s.w.isSome.toNat * _
  simp only [hn, hw, he, hpage, Option.isSome_none, Bool.toNat_false]
  omega

/-- The last operand byte of a row, these values latched. -/
theorem State.AtOperand.counted {s : State} {i : Instr} {f : Form} (h : s.AtOperand i f) (b : Byte) (d : Option Int)
    (n : Option Byte) (w e : Option Addr) (hcount : s.operandCount + 1 =
      d.isSome.toNat + n.isSome.toNat + e.isSome.toNat + w.isSome.toNat * (if s.wordIsLong then 3 else 2)) :
    State.Counted { s.accept b with d := d, n := n, w := w, e := e } := by
  have hlen : State.byteLength { s.accept b with d := d, n := n, w := w, e := e } = s.byteLength + 1 :=
    State.accept_byteLength s b
  have hend := opcodeEnd_eq s
  have hread := h.opcode_read
  have hpage : (if s.page = some Page.ed then 1 else 0) = if s.page = some Page.base then 0 else 1 := by
    rcases h.page_cases with hp | ⟨hp, -⟩ <;> simp [h.page_eq, hp]
  unfold State.operandCount at hcount
  unfold State.Counted
  rw [hlen]
  change _ = s.prefixCount + (if s.page = some Page.base then 0 else 1) + 1 + d.isSome.toNat + n.isSome.toNat +
    e.isSome.toNat + w.isSome.toNat * (if s.wordIsLong then 3 else 2)
  omega

/-- The second byte of a long word is not the last (R119). -/
theorem operandRead_second_of_long {f : Form} {s : State} (b : Byte) (hr : f.recipe = .w) (h1 : s.operandCount = 1)
    (hlong : s.wordIsLong = true) : operandRead f s b = .next (s.accept b) := by
  have hlong' : (s.accept b).wordIsLong = true := hlong
  simp [operandRead, hr, h1, hlong']

/-- An operand byte that makes a record has latched as many bytes as were fetched (R119, R120). -/
theorem State.AtOperand.completes {s t : State} {i : Instr} {f : Form} {b : Byte} (h : s.AtOperand i f)
    (hlatches : s.n = none ∧ s.w = none ∧ s.e = none) (hread : operandRead f s b = .next t)
    (hopen : t.output ≠ s.output) : ∃ u : State, u.Counted ∧ complete f u = .next t := by
  obtain ⟨hn, hw, he⟩ := hlatches
  have hmore := h.more
  have h0 : recipeMax f.recipe = 1 → s.operandCount = 0 := by omega
  have hdn : f.recipe ≠ .dn → s.d = none := fun hne => not_not.mp fun hd => hne (h.d_iff.mp hd).1
  rcases operandRead_next hread with ⟨hr, -⟩ | ⟨hr, hc⟩ | ⟨hr, hc⟩ | ⟨hr, hc⟩ | ⟨-, -, rfl⟩ | ⟨hr, hne, hc⟩ |
      ⟨-, -, rfl⟩ | ⟨hr, hne, w, hc⟩
  · simp [hr, recipeMax] at hmore
  · exact ⟨_, h.counted b s.d (some b) s.w s.e (by simp [h0, hdn, hr, recipeMax, hw, he]), hc⟩
  · exact ⟨_, h.counted b (some (sext8 b)) s.n s.w s.e (by simp [h0, hr, recipeMax, hn, hw, he]), hc⟩
  · exact ⟨_, h.counted b s.d s.n s.w (some _) (by simp [h0, hdn, hr, recipeMax, hn, hw]), hc⟩
  · exact absurd rfl hopen
  · have h1 : s.operandCount = 1 := by
      rw [hr, recipeMax] at hmore
      omega
    obtain ⟨d, hd⟩ := Option.ne_none_iff_exists'.mp (h.d_iff.mpr ⟨hr, h1⟩)
    exact ⟨_, h.counted b s.d (some b) s.w s.e (by simp [h1, hd, hw, he]), hc⟩
  · exact absurd rfl hopen
  · refine ⟨_, h.counted b s.d s.n (some w) s.e ?_, hc⟩
    by_cases h1 : s.operandCount = 1
    · cases hlong : s.wordIsLong with
      | false => simp [h1, hdn, hr, hn, he]
      | true =>
        rw [operandRead_second_of_long b hr h1 hlong] at hread
        cases hread
        exact absurd rfl hopen
    · have h2 : s.operandCount = 2 := by
        rw [hr, recipeMax] at hmore
        omega
      simp [h2, h.third_is_long hr h2, hdn, hr, hn, he]

/-- What makes a record in a run: the PrefixOnly ending after the prefixes alone, or a row whose bytes are all read,
without operands where it has no text. -/
theorem exec_record {s t : State} {i : Instr} {b : Byte} (hat : s.AtByte i b) (hrun : s.runState = .running)
    (hlatches : s.n = none ∧ s.w = none ∧ s.e = none) (h : exec i s = .next t) (hopen : t.output ≠ s.output) :
    (t = s.finish .prefixOnly none "" ∧ s.byteLength = s.prefixCount) ∨
    ∃ f u, State.Counted u ∧ (f.body = none → u.NoOperand) ∧ complete f u = .next t := by
  cases hf : formOf s.params.cbY7Mnemonic i with
  | none =>
    rcases exec_next hrun h with ⟨-, rfl⟩ | ⟨c, -, hread⟩
    · exact absurd rfl hopen
    · cases hread with
      | goesOn hu => exact absurd hu.accepted.output hopen
      | completes hf' => rw [hf] at hf'; cases hf'
      | endsPrefixOnly hi => subst hi; exact .inl ⟨rfl, (hat.base rfl rfl fun _ => nofun).1⟩
  | some f =>
    rw [exec_eq_runForm hf] at h
    rcases runForm_next h with ⟨-, rfl⟩ | ⟨-, ⟨-, rfl⟩ | ⟨c, hc, ⟨hp, hread⟩ | ⟨hp, hread⟩⟩⟩
    · exact absurd rfl hopen
    · exact absurd rfl hopen
    · obtain ⟨hsel, hi⟩ := hat.selector hf hp
      rcases opcodeRead_next hread with ⟨-, hcomplete⟩ | ⟨-, rfl⟩
      · obtain ⟨hcounted, hnone⟩ :=
          hsel.opcodeTaken_counted hrun hlatches (Form.fits_iff.mp (classify_form_fits (hi ▸ hf))).1 c
        exact .inr ⟨f, _, hcounted, fun _ => hnone, hcomplete⟩
      · exact absurd rfl hopen
    · have hop := hat.operand hf hp
      obtain ⟨u, hcounted, hcomplete⟩ := hop.completes hlatches hread hopen
      refine .inr ⟨f, u, hcounted, fun hb => ?_, hcomplete⟩
      have hmore := hop.more
      rw [recipe_of_body_none hf hb, recipeMax] at hmore
      omega

/-- A step that makes a record ready is a row's. -/
theorem step_record {s t : State} {r : DecodedInstruction} (hs : s.Inv) (hin : s.inbox = [])
    (hrun : s.runState = .running) (h : step s = .next t) (hr : t.output = some r) :
    (t = s.settled.finish .prefixOnly none "" ∧ s.settled.byteLength = s.settled.prefixCount) ∨
    ∃ f u, State.Counted u ∧ (f.body = none → u.NoOperand) ∧ complete f u = .next t := by
  have hinv := settled_inv hs
  have hgoes : s.settled.runState = .running := by simpa using hrun
  have hp := State.settled_phase_ne_complete s
  have hnone : s.settled.output = none := (hinv.inProgress hgoes hp).output_none
  have hopen : t.output ≠ s.settled.output := by simp [hr, hnone]
  rcases step_next h with ⟨ev, rest, hev, -⟩ | ⟨-, -, -, rfl⟩ | ⟨i, -, -, hi, hex⟩ | ⟨-, hidle, -⟩
  · simp [hin] at hev
  · exact absurd rfl hopen
  · rcases exec_next hgoes hex with ⟨-, rfl⟩ | ⟨b, hb, -⟩
    · exact absurd rfl hopen
    · exact exec_record (hinv.atByte hgoes hp hi hb) hgoes (hinv.running_latches hgoes hp) hex hopen
  · exact absurd hrun hidle

/-- The record that is ready is well formed. -/
theorem State.Inv.output_ok {s : State} {r : DecodedInstruction} (h : s.Inv) (hr : s.output = some r) : r.Ok :=
  h.records_ok r (List.mem_of_getLast? (h.output_last r hr))

/-- Settles O43: the record's bytes are counted off the state it is made of. -/
theorem recordLengthOfEveryStep : Obligations.RecordLengthOfEveryStep := by
  intro s t r hs hin hrun h hr
  have hok := (stepKeepsTheInvariant s t hs h).output_ok hr
  refine ⟨hok.length_bounds.1, hok.length_bounds.2, hok.length_counts, ?_⟩
  rcases step_record hs hin hrun h hr with ⟨rfl, hlen⟩ | ⟨f, u, hcounted, hnone, hc⟩
  · obtain rfl := Option.some.inj hr
    exact ⟨fun _ => ⟨hlen, hlen.trans_le (prefixCount_le _)⟩, fun hne => absurd rfl hne, nofun⟩
  · have hlength : ∀ long : Bool, (long = true ↔ LongWord u) → u.wordIsLong = long := fun long hlong =>
      Bool.eq_iff_iff.mpr ((wordIsLong_iff u).trans hlong.symm)
    rcases complete_next hc with ⟨hb, rfl⟩ | ⟨_, _, _, -, -, rfl⟩ <;> obtain rfl := Option.some.inj hr
    · exact ⟨nofun, fun _ long hlong => hlength long hlong ▸ hcounted, fun _ => hnone hb⟩
    · exact ⟨nofun, fun _ long hlong => hlength long hlong ▸ hcounted, nofun⟩

-- The chain of prefixes, step by step

/-- The steps from `s` to `t` read exactly the bytes `bs`, and make no record. -/
structure Reads (s : State) (bs : List Byte) (t : State) : Prop where
  steps : stepTimes bs.length s = .next t
  rawBytes : t.rawBytes = s.rawBytes ++ bs
  cursor : t.cursor = s.cursor + BitVec.ofNat 24 bs.length
  runState : t.runState = s.runState
  remaining : t.remaining = s.remaining
  emitted : t.emitted = s.emitted

theorem Reads.refl (s : State) : Reads s [] s := ⟨rfl, by simp, by simp, rfl, rfl, rfl⟩

theorem Reads.cons {s u t : State} {b : Byte} {bs : List Byte} (hstep : step s = .next u) (hacc : Accepted s b u)
    (h : Reads u bs t) : Reads s (b :: bs) t where
  steps := by rw [List.length_cons, stepTimes, hstep]; exact h.steps
  rawBytes := by rw [h.rawBytes, hacc.rawBytes, List.append_assoc]; rfl
  cursor := by
    rw [h.cursor, hacc.cursor, List.length_cons, Nat.add_comm, BitVec.ofNat_add, BitVec.add_assoc]
    rfl
  runState := h.runState.trans hacc.runState
  remaining := h.remaining.trans hacc.remaining
  emitted := h.emitted.trans hacc.emitted

/-- Bytes that can be read stay so while the bytes before them are accepted. -/
theorem Accepted.holds {s u : State} {b : Byte} (h : Accepted s b u) {a : Addr} {bs : List Byte} (hb : Holds s a bs) :
    Holds u a bs := by
  induction bs generalizing a with
  | nil => trivial
  | cons c cs ih =>
    obtain ⟨hr, hc, hcs⟩ := hb
    exact ⟨h.params ▸ hr, by rw [State.streamByte, h.stream]; exact hc, ih hcs⟩

/-- A running block with no request waiting, in front of a byte that selects a row. -/
structure State.AtChain (s : State) : Prop where
  inv : s.Inv
  inbox : s.inbox = []
  running : s.runState = .running
  not_complete : s.phase ≠ .complete
  not_operands : s.phase ≠ .operands
  displaced : s.phase = .afterIndexCB → s.d ≠ none

theorem State.AtChain.selector {s : State} (h : s.AtChain) : s.AtSelector :=
  (h.inv.running_shape h.running).atSelector h.not_operands h.not_complete h.displaced

theorem State.AtChain.step_eq {s : State} {b : Byte} (h : s.AtChain) (hb : s.read = some b) :
    step s = exec (classify s.ctx b) s := by
  have hself : s.settled = s := State.settled_eq_self h.not_complete
  have hstep := step_of_selector h.inbox h.running (by rw [hself]; exact h.not_operands)
    (by rw [hself]; exact h.displaced) hb
  rwa [hself] at hstep

/-- A step that accepts a byte of the chain leads on along it. -/
theorem State.AtChain.accepted {s u : State} {b : Byte} (h : s.AtChain) (hstep : step s = .next u)
    (hacc : Accepted s b u) (hnc : u.phase ≠ .complete) (hop : u.phase ≠ .operands)
    (hd : u.phase = .afterIndexCB → u.d ≠ none) : u.AtChain :=
  ⟨stepKeepsTheInvariant s u h.inv hstep, hacc.inbox.trans h.inbox, hacc.runState.trans h.running, hnc, hop, hd⟩

/-- The rows of the prefixes, and the context each leads to (R112, R114 to R117). -/
theorem ctxAfter_eq_some {pol : DdcbPolicy} {c c' : Ctx} {i : Instr} (h : ctxAfter pol c i = some c') :
    ∃ ms rs, c = .base ms rs ∧
      ((∃ sfx, i = .modeSelect sfx ∧ c' = .base true rs) ∨
       (∃ x, i = .indexPrefix x ∧ c' = .base ms (regSetOf x)) ∨
       (i = .edPrefix ∧ c' = .ed) ∨
       (i = .cbPrefix ∧ ∃ x, pol = .indexed ∧ rs = regSetOf x ∧ c' = .indexCb x) ∨
       (i = .cbPrefix ∧ ¬ (rs ≠ .hl ∧ pol = .indexed) ∧ c' = .cb)) := by
  unfold ctxAfter at h
  split at h
  case h_1 ms rs sfx => cases h; exact ⟨ms, rs, rfl, .inl ⟨sfx, rfl, rfl⟩⟩
  case h_2 ms rs x => cases x <;> cases h <;> exact ⟨ms, rs, rfl, .inr (.inl ⟨_, rfl, rfl⟩)⟩
  case h_3 ms rs => cases h; exact ⟨ms, rs, rfl, .inr (.inr (.inl ⟨rfl, rfl⟩))⟩
  case h_4 ms rs =>
    refine ⟨ms, rs, rfl, .inr (.inr (.inr ?_))⟩
    split at h
    · cases h
      exact .inl ⟨rfl, .ix, rfl, rfl, rfl⟩
    · cases h
      exact .inl ⟨rfl, .iy, rfl, rfl, rfl⟩
    · rename_i hix hiy
      cases h
      refine .inr ⟨rfl, fun ⟨hrs, hpol⟩ => ?_, rfl⟩
      cases rs with
      | hl => exact hrs rfl
      | ix => exact hix rfl hpol
      | iy => exact hiy rfl hpol
  case h_5 => cases h

/-- What a row of the prefixes leaves has accepted the byte. -/
theorem prefixTaken_accepted (s : State) (b : Byte) (sfx : Suffix) (rs : RegSet) (p : Phase) :
    Accepted s b (s.prefixTaken b sfx rs p) :=
  ⟨rfl, rfl, rfl, rfl, rfl, rfl, rfl, rfl, rfl, rfl, rfl, rfl⟩

/-- It stays in front of the chain, unless the displacement of an indexed CB comes next. -/
theorem State.AtChain.prefixTaken {s : State} {b : Byte} {sfx : Suffix} {rs : RegSet} {p : Phase} (h : s.AtChain)
    (hstep : step s = .next (s.prefixTaken b sfx rs p)) (hnc : p ≠ .complete) (hop : p ≠ .operands)
    (hcb : p ≠ .afterIndexCB) : (s.prefixTaken b sfx rs p).AtChain :=
  h.accepted hstep (prefixTaken_accepted ..) hnc hop fun hp => absurd hp hcb

/-- A byte of the prefixes: one step accepts it and leads to the context after it, or to the displacement of an
indexed CB. -/
theorem State.AtChain.prefixRow_step {s : State} {b : Byte} {c : Ctx} (h : s.AtChain) (hb : s.read = some b)
    (hc : ctxAfter s.params.ddcbPolicy s.ctx (classify s.ctx b) = some c) :
    ∃ u, step s = .next u ∧ Accepted s b u ∧
      ((u.AtChain ∧ u.ctx = c ∧ ∀ x, c ≠ .indexCb x) ∨
       ∃ x, c = .indexCb x ∧ u.phase = .afterIndexCB ∧ u.regSet = regSetOf x ∧ u.d = none) := by
  have hstep := h.step_eq hb
  obtain ⟨ms, rs, hctx, hrow⟩ := ctxAfter_eq_some hc
  have hbase : pageIn s.ctx = .base := by rw [hctx]; rfl
  obtain ⟨rfl, rfl⟩ : s.msSeen = ms ∧ s.regSet = rs := by simpa [ctx_of_pageIn_base hbase] using hctx
  have hcb : s.phase ≠ .afterIndexCB := fun hp => h.displaced hp (h.selector.base hbase).2
  rcases hrow with ⟨sfx, hi, rfl⟩ | ⟨x, hi, rfl⟩ | ⟨hi, rfl⟩ | ⟨hi, x, hpol, hrs, rfl⟩ | ⟨hi, hpol, rfl⟩
  · rw [hi, exec_modeSelect sfx h.running hb] at hstep
    have hsfx : sfx ≠ .none := (classify_eq_modeSelect (hctx ▸ hi)).2.2
    refine ⟨_, hstep, prefixTaken_accepted .., .inl ⟨h.prefixTaken hstep nofun nofun nofun, ?_, nofun⟩⟩
    simp [State.ctx, State.prefixTaken, State.msSeen, hsfx]
  · rw [hi, exec_indexPrefix x h.running hb] at hstep
    cases x <;>
      exact ⟨_, hstep, prefixTaken_accepted .., .inl ⟨h.prefixTaken hstep nofun nofun nofun, rfl, nofun⟩⟩
  · rw [hi, exec_edPrefix h.running hb] at hstep
    exact ⟨_, hstep, prefixTaken_accepted .., .inl ⟨h.prefixTaken hstep nofun nofun nofun, rfl, nofun⟩⟩
  · rw [hi, exec_cbPrefix h.running hb hcb, if_pos ⟨by rw [hrs]; cases x <;> nofun, hpol⟩] at hstep
    exact ⟨_, hstep, prefixTaken_accepted .., .inr ⟨x, rfl, rfl, hrs, (h.selector.base hbase).2⟩⟩
  · rw [hi, exec_cbPrefix h.running hb hcb, if_neg hpol] at hstep
    exact ⟨_, hstep, prefixTaken_accepted .., .inl ⟨h.prefixTaken hstep nofun nofun nofun, rfl, nofun⟩⟩

/-- The displacement of an indexed CB: one step latches it, and the opcode comes next (R362). -/
theorem displacement_step {s : State} {v : Byte} {x : IndexReg} (hs : s.Inv) (hin : s.inbox = [])
    (hrun : s.runState = .running) (hp : s.phase = .afterIndexCB) (hrs : s.regSet = regSetOf x) (hd : s.d = none)
    (hv : s.read = some v) : ∃ u, step s = .next u ∧ Accepted s v u ∧ u.AtChain ∧ u.ctx = .indexCb x := by
  have hself : s.settled = s := State.settled_eq_self (by simp [hp])
  have hstep : step s = .next (s.latchD v) := by
    rw [step_of_row hin hrun (by rw [hself]; exact nextInstr_displacement hp hd), hself,
      exec_cbPrefix_afterIndexCB hrun hv hp]
  refine ⟨_, hstep, ⟨rfl, rfl, rfl, rfl, rfl, rfl, rfl, rfl, rfl, rfl, rfl, rfl⟩,
    ⟨stepKeepsTheInvariant _ _ hs hstep, hin, hrun, by simp [hp], by simp [hp], by simp⟩, ?_⟩
  cases x <;> simp [State.ctx, hp, hrs, regSetOf, indexOf]

/-- A row of the prefixes hands the rest of the bytes to the context after it. -/
theorem decodeChain_of_ctxAfter {pol : DdcbPolicy} {c c' : Ctx} {b : Byte} {bs : List Byte}
    (h : ctxAfter pol c (classify c b) = some c') (hx : ∀ x, c' ≠ .indexCb x) :
    decodeChain pol c (b :: bs) = decodeChain pol c' bs := by
  rw [decodeChain, h]
  cases c' with
  | indexCb x => exact absurd rfl (hx x)
  | base | cb | ed => rfl

/-- Along the chain the block reads the bytes before the one that selects the decoder's row, and comes to
stand there. -/
theorem State.AtChain.follows {s : State} {bytes rest : List Byte} {c : Ctx} {i : Instr} (h : s.AtChain)
    (hb : Holds s s.cursor bytes) (hchain : decodeChain s.params.ddcbPolicy s.ctx bytes = .ok (c, i, rest)) :
    ∃ lead tail t, bytes = lead ++ tail ∧ tail.length = rest.length + (if i = .prefixOnly then 0 else 1) ∧
      Reads s lead t ∧ t.AtChain ∧ t.ctx = c ∧ t.nextInstr = .ok (some i) := by
  match bytes with
  | [] => cases hchain
  | b :: bs =>
    have hread := read_of_holds hb
    cases hc : ctxAfter s.params.ddcbPolicy s.ctx (classify s.ctx b) with
    | none =>
      have hrow : s.nextInstr = .ok (some (classify s.ctx b)) := by
        rw [nextInstr_of_read h.not_operands h.displaced, hread]
        rfl
      simp only [decodeChain, hc] at hchain
      split at hchain
      · rename_i hi
        cases hchain
        exact ⟨[], _, s, rfl, by simp, .refl s, h, rfl, hi ▸ hrow⟩
      · rename_i hi
        cases hchain
        exact ⟨[], _, s, rfl, by simp [hi], .refl s, h, rfl, hrow⟩
    | some c' =>
      obtain ⟨u, hstep, hacc, ⟨hu, rfl, hx⟩ | ⟨x, rfl, hp, hrs, hd⟩⟩ := h.prefixRow_step hread hc
      · have hrest : decodeChain u.params.ddcbPolicy u.ctx bs = .ok (c, i, rest) := by
          rw [hacc.params, ← decodeChain_of_ctxAfter hc hx]
          exact hchain
        have hub : Holds u u.cursor bs := by rw [hacc.cursor]; exact hacc.holds hb.2.2
        obtain ⟨lead, tail, t, rfl, hlen, hreads, ht⟩ := hu.follows hub hrest
        exact ⟨b :: lead, tail, t, rfl, hlen, hreads.cons hstep hacc, ht⟩
      · match bs with
        | [] => simp [decodeChain, hc] at hchain
        | v :: vs =>
          have hub : Holds u u.cursor (v :: vs) := by rw [hacc.cursor]; exact hacc.holds hb.2.2
          obtain ⟨t, hstep', hacc', ht, htx⟩ := displacement_step (x := x) (stepKeepsTheInvariant _ _ h.inv hstep)
            (hacc.inbox.trans h.inbox) (hacc.runState.trans h.running) hp hrs hd (read_of_holds hub)
          have hrest : decodeChain t.params.ddcbPolicy t.ctx vs = .ok (c, i, rest) := by
            rw [hacc'.params, hacc.params, htx]
            simpa [decodeChain, hc] using hchain
          have htb : Holds t t.cursor vs := by rw [hacc'.cursor]; exact hacc'.holds hub.2.2
          obtain ⟨lead, tail, t', rfl, hlen, hreads, ht'⟩ := ht.follows htb hrest
          exact ⟨b :: v :: lead, tail, t', rfl, hlen, (hreads.cons hstep' hacc').cons hstep hacc, ht'⟩
termination_by bytes.length

/-- Settles O51: an instruction start is in front of the chain, with nothing accepted. -/
theorem stepsFollowThePrefixChain : Obligations.StepsFollowThePrefixChain := by
  intro s bytes rest c i hs hin hrun hp hb hchain
  have hstart : s.AtChain := ⟨hs, hin, hrun, by simp [hp], by simp [hp], by simp [hp]⟩
  have hshape := hs.running_shape hrun
  simp only [State.Shape, hp] at hshape
  obtain ⟨hraw, hsfx, hrs, -⟩ := hshape
  have hctx : s.ctx = .base false .hl := by simp [State.ctx, hp, State.msSeen, hsfx, hrs]
  obtain ⟨lead, tail, t, rfl, hlen, hreads, ht, htc, hrow⟩ := hstart.follows hb (hctx ▸ hchain)
  refine ⟨lead.length, t, ?_, hreads.steps, ?_, hreads.cursor, htc, hrow, ht.not_operands, ht.running, hreads.remaining,
    hreads.emitted⟩
  · rw [List.length_append, hlen, Nat.add_assoc]
  · rw [hreads.rawBytes, hraw, List.take_left']
    all_goals rfl

-- Text

/-- Settles O56: a row's text is that of its rule, and an ending without a form has none. -/
theorem textOfAFullInstruction : Obligations.TextOfAFullInstruction := by
  refine ⟨fun f s kw operands ts hb hts => ?_, fun f s hb => ?_, fun s t h ht hs => ?_⟩
  · simp only [complete, hb, hts, textOf_eq_rendered]
  · simp only [complete, hb]
  · rcases withRead_next h with ⟨-, rfl⟩ | ⟨-, ⟨-, rfl⟩ | ⟨b, -, hk⟩⟩
    · exact absurd ht hs
    · exact absurd ht hs
    · cases hk
      exact ⟨_, rfl, rfl⟩

/-- A hexadecimal digit of the model is the digit of the rule (R131). -/
theorem hexDigit_eq_hexName (v : Nat) : hexDigit v = hexName (v % 16) := by
  have hdigit : ∀ d < 16, hexDigit d = hexName d := by decide
  have hmod : hexDigit v = hexDigit (v % 16) := by simp [hexDigit]
  rw [hmod, hdigit _ (Nat.mod_lt v (by decide))]

/-- Settles O57: digit by digit. -/
theorem hexadecimalText : Obligations.HexadecimalText := by
  refine ⟨fun b => ?_, fun w => ?_, fun b w => ⟨rfl, rfl⟩⟩
  · have hb := b.isLt
    simp [byteText, hex2, hexDigit_eq_hexName, Nat.mod_eq_of_lt (show b.toNat / 16 < 16 by omega)]
  · have hw := w.isLt
    simp [wordText, hex6, hexDigit_eq_hexName, Nat.mod_eq_of_lt (show w.toNat / 1048576 < 16 by omega)]

/-- The decimal numbers a displacement can have as its magnitude. -/
theorem decimal_eq_toString : ∀ v ≤ 128, decimal v = toString v := by
  decide

/-- Settles O58: the model's decimal is Lean's for these magnitudes. -/
theorem displacementText : Obligations.DisplacementText := by
  intro s x d hlo hhi hd
  have hdec := decimal_eq_toString d.natAbs (by omega)
  have hname : indexText x = sName x := by cases x <;> rfl
  simp [renderOperand, hd, indText, dispText, hname, hdec, String.append_assoc]

/-- Settles O55: the decoder run on each byte sequence. -/
theorem specWordsDecode : Obligations.SpecWordsDecode :=
  ⟨rfl, rfl, rfl, rfl, rfl, rfl, rfl, rfl, rfl, rfl, rfl, rfl⟩

end Sys2Proof.Machine

namespace Sys2Proof.Machine

open Sys2Proof.Claims

-- A row of a page, from its opcode and its form

/-- To select a row of a page is to classify the byte so in the page's context, with or without a mode-select before it. -/
theorem selects_iff {h : Home} (hpage : h.isPage = true) (b : Byte) (i : Instr) :
    Selects h b i ↔ ∀ ms, classify (h.ctx ms) b = i := by
  cases h with
  | modeSelect | indexPrefix | cbPrefix | edPrefix | prefixOnly => cases hpage
  | baseIndexed x => cases x <;> rfl
  | base => rfl
  | cb | indexCb | ed => simp [Selects, Home.ctx]

/-- The opcode of a well-formed row selects it in the row's table (R110, R118). -/
theorem selects_opcode {h : Home} {i : Instr} {b : Byte} (hpage : h.isPage = true) (hh : home i = h)
    (hw : i.wellFormed = true) (hb : opcode i = some b) : Selects h b i := by
  subst hh
  exact (selects_iff hpage b i).mpr (classify_opcode_of_isPage hpage hw hb)

/-- Operands spelled by the opcode alone. -/
theorem renderOperands_names (s : State) (ts : List String) : renderOperands s (ts.map .name) = some ts := by
  induction ts with
  | nil => rfl
  | cons t ts ih => simp [renderOperands, renderOperand, ih]

section Rows

variable {h : Home} {i : Instr} {b : Byte} {rule : Nat} {kw : String}

/-- The opcode of a row that has a form selects it. -/
theorem selects_of_form {f : Form} (hh : home i = h) (hw : i.wellFormed = true) (hb : opcode i = some b)
    (hf : formOf .srl i = some f) : Selects h b i :=
  selects_opcode (hh ▸ isPage_of_form hf) hh hw hb

/-- A row with no operand byte: its operands are fixed spellings. -/
theorem plainRow_of_form {ops : List String} (hh : home i = h) (hw : i.wellFormed = true) (hb : opcode i = some b)
    (hf : ∀ k, formOf k i = some (fullForm rule (pageOf h) .none kw (ops.map .name))) : PlainRow h b i rule kw ops :=
  ⟨selects_of_form hh hw hb (hf .srl),
    completesPlain_of _ (fun s => hf s.params.cbY7Mnemonic) fun s => renderOperands_names s ops,
    faults_of_form fun k => ⟨_, hf k⟩⟩

/-- A row with an immediate byte: its operands are rendered once `n` is latched. -/
theorem rowN_of_form (operands : List Operand) {ops : Byte → List String} (hh : home i = h) (hw : i.wellFormed = true)
    (hb : opcode i = some b) (hf : ∀ k, formOf k i = some (fullForm rule (pageOf h) .n kw operands))
    (ho : ∀ (s : State) v, renderOperands { s with n := some v } operands = some (ops v)) : RowN h b i rule kw ops :=
  ⟨selects_of_form hh hw hb (hf .srl), completesN_of operands hf fun s v hv => by rw [← ho s v, ← hv],
    faults_of_form fun k => ⟨_, hf k⟩⟩

/-- A row with a relative target: its operands are rendered once `e` is latched. -/
theorem rowE_of_form (operands : List Operand) {ops : Addr → List String} (hh : home i = h) (hw : i.wellFormed = true)
    (hb : opcode i = some b) (hf : ∀ k, formOf k i = some (fullForm rule .base .e kw operands))
    (ho : ∀ (s : State) v, renderOperands { s with e := some v } operands = some (ops v)) : RowE h b i rule kw ops :=
  ⟨selects_of_form hh hw hb (hf .srl), completesE_of operands hf fun s v hv => by rw [← ho s v, ← hv],
    faults_of_form fun k => ⟨_, hf k⟩⟩

/-- A row with a word: its operands are rendered once `w` is latched. -/
theorem rowW_of_form (operands : List Operand) {ops : Addr → List String} (hp : pageOf h = .base ∨ pageOf h = .ed)
    (hh : home i = h) (hw : i.wellFormed = true) (hb : opcode i = some b)
    (hf : ∀ k, formOf k i = some (fullForm rule (pageOf h) .w kw operands))
    (ho : ∀ (s : State) v, renderOperands { s with w := some v } operands = some (ops v)) : RowW h b i rule kw ops :=
  ⟨selects_of_form hh hw hb (hf .srl), completesW_of operands hp hf fun s v hv => by rw [← ho s v, ← hv],
    faults_of_form fun k => ⟨_, hf k⟩⟩

end Rows

/-- The bytes listed in R301 are not substituted. -/
theorem notSubstituted_of_indexInsensitive {b : Byte} (h : indexInsensitive b = true) : NotSubstituted b :=
  ⟨fun ms => (classify_indexInsensitive b h ms).1, fun ms => (classify_indexInsensitive b h ms).2⟩

-- The operand tables (R101 to R104): the text of an entry is the spelling of the rule

@[simp] theorem reg8Text_reg8Of (y : Fin 8) : reg8Text (reg8Of y) = rName y := by revert y; decide
@[simp] theorem pairText_pairOf (p : Fin 4) : pairText (pairOf p) = rpName p := by revert p; decide
@[simp] theorem stackPairText_stackPairOf (p : Fin 4) : stackPairText (stackPairOf p) = rp2Name p := by
  revert p; decide
@[simp] theorem condText_condOf (y : Fin 8) : condText (condOf y) = ccName y := by revert y; decide
@[simp] theorem rstText_eq_rstName (t : Fin 8) : rstText t = rstName t := by revert t; decide

-- The rows of the base page: for each its table, that it is well formed, its opcode and its form

/-- Settles O1: each row from its opcode and its form. -/
theorem baseIndirectAndIncrementRows : Obligations.BaseIndirectAndIncrementRows :=
  ⟨plainRow_of_form rfl rfl rfl fun _ => rfl,
    plainRow_of_form rfl rfl rfl fun _ => rfl, notSubstituted_of_indexInsensitive rfl,
    fun p => plainRow_of_form rfl rfl (by revert p; decide) fun _ => by rw [← pairText_pairOf]; rfl,
    plainRow_of_form rfl rfl rfl fun _ => rfl, notSubstituted_of_indexInsensitive rfl,
    plainRow_of_form rfl rfl rfl fun _ => rfl, notSubstituted_of_indexInsensitive rfl,
    plainRow_of_form rfl rfl rfl fun _ => rfl,
    plainRow_of_form rfl rfl rfl fun _ => rfl,
    fun p => plainRow_of_form rfl rfl (by revert p; decide) fun _ => by rw [← pairText_pairOf]; rfl,
    ⟨fun _ => rfl, fun _ => rfl⟩,
    fun p => plainRow_of_form rfl rfl (by revert p; decide) fun _ => by rw [← pairText_pairOf]; rfl,
    ⟨fun _ => rfl, fun _ => rfl⟩,
    fun y => plainRow_of_form rfl rfl (by revert y; decide) fun _ => by rw [← reg8Text_reg8Of]; rfl,
    ⟨fun _ => rfl, fun _ => rfl⟩,
    ⟨fun _ => rfl, fun _ => rfl⟩,
    ⟨fun _ => rfl, fun _ => rfl⟩,
    fun y => plainRow_of_form rfl rfl (by revert y; decide) fun _ => by rw [← reg8Text_reg8Of]; rfl,
    ⟨fun _ => rfl, fun _ => rfl⟩,
    ⟨fun _ => rfl, fun _ => rfl⟩,
    ⟨fun _ => rfl, fun _ => rfl⟩⟩

/-- The 59 loads between registers are those whose byte is no mode-select and not HALT (R229). -/
theorem wellFormed_ldRR : ∀ y z : Fin 8, (y = z → 4 ≤ y ∧ y ≠ 6) →
    (Instr.ldRR (reg8Of y) (reg8Of z)).wellFormed = true := by
  decide

theorem opcode_ldRR : ∀ y z : Fin 8,
    opcode (.ldRR (reg8Of y) (reg8Of z)) = some (BitVec.ofNat 8 (0x40 + 8 * y.val + z.val)) := by
  decide

/-- The y field of a mode-select byte is the index of its suffix (R114). -/
theorem fieldY_modeSelect : ∀ y : Fin 8, y < 4 → fieldY (BitVec.ofNat 8 (0x40 + 9 * y.val)) = y := by
  decide

/-- Settles O2: each row from its opcode and its form; the bytes of the missing loads are the mode-selects. -/
theorem accumulatorAndRegisterLoadRows : Obligations.AccumulatorAndRegisterLoadRows := by
  refine ⟨plainRow_of_form rfl rfl rfl fun _ => rfl, ⟨fun _ => rfl, fun _ => rfl⟩,
    plainRow_of_form rfl rfl rfl fun _ => rfl, ⟨fun _ => rfl, fun _ => rfl⟩,
    plainRow_of_form rfl rfl rfl fun _ => rfl, ⟨fun _ => rfl, fun _ => rfl⟩,
    plainRow_of_form rfl rfl rfl fun _ => rfl, ⟨fun _ => rfl, fun _ => rfl⟩,
    plainRow_of_form rfl rfl rfl fun _ => rfl, ⟨fun _ => rfl, fun _ => rfl⟩,
    plainRow_of_form rfl rfl rfl fun _ => rfl, ⟨fun _ => rfl, fun _ => rfl⟩,
    plainRow_of_form rfl rfl rfl fun _ => rfl, ⟨fun _ => rfl, fun _ => rfl⟩,
    plainRow_of_form rfl rfl rfl fun _ => rfl, ⟨fun _ => rfl, fun _ => rfl⟩,
    plainRow_of_form rfl rfl rfl fun _ => rfl, notSubstituted_of_indexInsensitive rfl, ?_,
    fun ms rs b r => classify_ne_self_load, ?_⟩
  · intro y z hyz
    exact plainRow_of_form rfl (wellFormed_ldRR y z hyz) (opcode_ldRR y z) fun _ => by
      rw [← reg8Text_reg8Of, ← reg8Text_reg8Of]; rfl
  · intro y hy rs
    have hms := (isModeSelect_iff _).mpr ⟨y, hy, rfl⟩
    rw [classify_modeSelect false rs hms, fieldY_modeSelect y hy]
    rfl

/-- Settles O3: each row from its opcode and its form. -/
theorem baseImmediateAndRelativeRows : Obligations.BaseImmediateAndRelativeRows := by
  refine ⟨rowE_of_form _ rfl rfl rfl (fun _ => rfl) fun _ _ => rfl,
    rowE_of_form _ rfl rfl rfl (fun _ => rfl) fun _ _ => rfl, ?_, ?_,
    rowW_of_form _ (.inl rfl) rfl rfl rfl (fun _ => rfl) fun _ _ => rfl,
    ⟨fun _ => rfl, fun _ => rfl⟩,
    rowW_of_form _ (.inl rfl) rfl rfl rfl (fun _ => rfl) fun _ _ => rfl, notSubstituted_of_indexInsensitive rfl,
    rowW_of_form _ (.inl rfl) rfl rfl rfl (fun _ => rfl) fun _ _ => rfl,
    ⟨fun _ => rfl, fun _ => rfl⟩,
    rowW_of_form _ (.inl rfl) rfl rfl rfl (fun _ => rfl) fun _ _ => rfl, ?_,
    ⟨fun _ => rfl, fun _ => rfl⟩,
    ⟨fun _ => rfl, fun _ => rfl⟩,
    ⟨fun _ => rfl, fun _ => rfl⟩⟩
  · intro c hc
    exact rowE_of_form [.name (ccName c), .target] rfl (by revert c; decide) (by revert c; decide)
      (fun _ => by rw [← condText_condOf]; rfl) fun _ _ => rfl
  · intro p
    exact rowW_of_form [.name (rpName p), .word] (.inl rfl) rfl rfl (by revert p; decide)
      (fun _ => by rw [← pairText_pairOf]; rfl) fun _ _ => rfl
  · intro y
    exact rowN_of_form [.name (rName y), .byte] rfl rfl (by revert y; decide)
      (fun _ => by rw [← reg8Text_reg8Of]; rfl) fun _ _ => rfl

/-- The rows `OP A,r` of one operation over the eight registers (R230 to R237). -/
theorem registerAlu_rows (row : Reg8 → Instr) {o rule : Nat} {kw : String}
    (hrow : ∀ r, home (row r) = .base ∧ (row r).wellFormed = true)
    (hb : ∀ z : Fin 8, opcode (row (reg8Of z)) = some (BitVec.ofNat 8 (o + z.val)))
    (hf : ∀ k r, formOf k (row r) = some (fullForm rule .base .none kw [.name "A", .name (reg8Text r)])) (z : Fin 8) :
    PlainRow .base (BitVec.ofNat 8 (o + z.val)) (row (reg8Of z)) rule kw ["A", rName z] :=
  plainRow_of_form (hrow _).1 (hrow _).2 (hb z) fun k => by rw [hf, reg8Text_reg8Of]; rfl

/-- Settles O4: the eight operations, each over the registers. -/
theorem registerAluRows : Obligations.RegisterAluRows :=
  ⟨registerAlu_rows .addAR (fun _ => ⟨rfl, rfl⟩) (by decide) fun _ _ => rfl,
    registerAlu_rows .adcAR (fun _ => ⟨rfl, rfl⟩) (by decide) fun _ _ => rfl,
    registerAlu_rows .subAR (fun _ => ⟨rfl, rfl⟩) (by decide) fun _ _ => rfl,
    registerAlu_rows .sbcAR (fun _ => ⟨rfl, rfl⟩) (by decide) fun _ _ => rfl,
    registerAlu_rows .andAR (fun _ => ⟨rfl, rfl⟩) (by decide) fun _ _ => rfl,
    registerAlu_rows .xorAR (fun _ => ⟨rfl, rfl⟩) (by decide) fun _ _ => rfl,
    registerAlu_rows .orAR (fun _ => ⟨rfl, rfl⟩) (by decide) fun _ _ => rfl,
    registerAlu_rows .cpAR (fun _ => ⟨rfl, rfl⟩) (by decide) fun _ _ => rfl⟩

/-- Settles O5: each row from its opcode and its form. -/
theorem stackExchangeAndRestartRows : Obligations.StackExchangeAndRestartRows :=
  ⟨fun y => plainRow_of_form rfl rfl (by revert y; decide) fun _ => by rw [← condText_condOf]; rfl,
    fun p => plainRow_of_form rfl rfl (by revert p; decide) fun _ => by rw [← stackPairText_stackPairOf]; rfl,
    ⟨fun _ => rfl, fun _ => rfl⟩,
    plainRow_of_form rfl rfl rfl fun _ => rfl,
    plainRow_of_form rfl rfl rfl fun _ => rfl, notSubstituted_of_indexInsensitive rfl,
    plainRow_of_form rfl rfl rfl fun _ => rfl, ⟨fun _ => rfl, fun _ => rfl⟩,
    plainRow_of_form rfl rfl rfl fun _ => rfl, ⟨fun _ => rfl, fun _ => rfl⟩,
    plainRow_of_form rfl rfl rfl fun _ => rfl, ⟨fun _ => rfl, fun _ => rfl⟩,
    plainRow_of_form rfl rfl rfl fun _ => rfl, notSubstituted_of_indexInsensitive rfl,
    plainRow_of_form rfl rfl rfl fun _ => rfl,
    plainRow_of_form rfl rfl rfl fun _ => rfl,
    fun p => plainRow_of_form rfl rfl (by revert p; decide) fun _ => by rw [← stackPairText_stackPairOf]; rfl,
    ⟨fun _ => rfl, fun _ => rfl⟩,
    fun t => plainRow_of_form rfl rfl (by revert t; decide) fun _ => by rw [← rstText_eq_rstName]; rfl⟩

/-- Settles O6: each row from its opcode and its form; the prefixes by classification. -/
theorem jumpCallAndPortRows : Obligations.JumpCallAndPortRows := by
  refine ⟨?_, rowW_of_form _ (.inl rfl) rfl rfl rfl (fun _ => rfl) fun _ _ => rfl,
    rowN_of_form _ rfl rfl rfl (fun _ => rfl) fun _ _ => rfl,
    rowN_of_form _ rfl rfl rfl (fun _ => rfl) fun _ _ => rfl, ?_,
    rowW_of_form _ (.inl rfl) rfl rfl rfl (fun _ => rfl) fun _ _ => rfl, fun _ => ⟨rfl, rfl, rfl⟩⟩
  all_goals
    intro y
    exact rowW_of_form [.name (ccName y), .word] (.inl rfl) rfl rfl (by revert y; decide)
      (fun _ => by rw [← condText_condOf]; rfl) fun _ _ => rfl

/-- Settles O7: the eight operations, none substituted under DD or FD. -/
theorem immediateAluRows : Obligations.ImmediateAluRows :=
  ⟨rowN_of_form _ rfl rfl rfl (fun _ => rfl) fun _ _ => rfl, notSubstituted_of_indexInsensitive rfl,
    rowN_of_form _ rfl rfl rfl (fun _ => rfl) fun _ _ => rfl, notSubstituted_of_indexInsensitive rfl,
    rowN_of_form _ rfl rfl rfl (fun _ => rfl) fun _ _ => rfl, notSubstituted_of_indexInsensitive rfl,
    rowN_of_form _ rfl rfl rfl (fun _ => rfl) fun _ _ => rfl, notSubstituted_of_indexInsensitive rfl,
    rowN_of_form _ rfl rfl rfl (fun _ => rfl) fun _ _ => rfl, notSubstituted_of_indexInsensitive rfl,
    rowN_of_form _ rfl rfl rfl (fun _ => rfl) fun _ _ => rfl, notSubstituted_of_indexInsensitive rfl,
    rowN_of_form _ rfl rfl rfl (fun _ => rfl) fun _ _ => rfl, notSubstituted_of_indexInsensitive rfl,
    rowN_of_form _ rfl rfl rfl (fun _ => rfl) fun _ _ => rfl, notSubstituted_of_indexInsensitive rfl⟩

-- Counting bytes

/-- Counting over the 256 values is counting the bytes. -/
theorem countBytes_eq_card (p : Byte → Bool) : countBytes p = (Finset.univ.filter fun b => p b = true).card := by
  have hlist : countBytes p = ((Finset.range 256).filter fun v => p (BitVec.ofNat 8 v) = true).card := by
    simp [countBytes, Finset.card, Finset.filter, Finset.range, Multiset.range]
  rw [hlist]
  refine Finset.card_nbij' (BitVec.ofNat 8) BitVec.toNat ?_ ?_ ?_ ?_
  · exact fun v hv => by simp_all
  · exact fun b hb => by simp_all [b.isLt]
  · intro v hv
    obtain ⟨hv, -⟩ : v < 256 ∧ _ := by simpa using hv
    simpa using hv
  · exact fun b _ => by simp

/-- Bytes that a list holds, each once. -/
theorem countBytes_of_mem_iff {p : Byte → Bool} {l : List Byte} (hl : l.Nodup) (hp : ∀ b, p b = true ↔ b ∈ l) :
    countBytes p = l.length := by
  rw [countBytes_eq_card, ← List.toFinset_card_of_nodup hl]
  exact congrArg _ (Finset.ext fun b => by simp [hp])

/-- All bytes but those of a list. -/
theorem countBytes_of_notMem_iff {p : Byte → Bool} {l : List Byte} (hl : l.Nodup) (hp : ∀ b, p b = true ↔ b ∉ l) :
    countBytes p = 256 - l.length := by
  have hall : 256 = Fintype.card Byte := by simpa [countBytes] using countBytes_eq_card fun _ => true
  rw [countBytes_eq_card, ← List.toFinset_card_of_nodup hl, hall, ← Finset.card_compl]
  exact congrArg _ (Finset.ext fun b => by simp [hp])

/-- A list in ascending order holds each byte once. -/
theorem nodup_of_ascending {l : List Byte} (h : l.IsChain (· < ·)) : l.Nodup :=
  (List.isChain_iff_pairwise.mp h).imp fun h => BitVec.ne_of_lt h

theorem indexInsensitiveBytes_nodup : indexInsensitiveBytes.Nodup := by
  apply nodup_of_ascending
  simp only [indexInsensitiveBytes, List.isChain_append]
  decide

theorem unrepresentedEdBytes_nodup : unrepresentedEdBytes.Nodup := by
  apply nodup_of_ascending
  simp only [unrepresentedEdBytes, List.isChain_append]
  decide

/-- Neither list of unrepresented ED opcodes has a byte of the other (R442, R507). -/
theorem unrepresentedEd_disjoint : unrepresentedEdBytes.Disjoint unrepresentedEdBlockBytes := by
  intro b hed hblock
  have h := classify_unrepEd b (by simpa [unrepresentedEd] using hed)
  rw [classify_unrepEdBlock b (by simpa [unrepresentedEdBlock] using hblock)] at h
  cases h

-- The rows that the bytes of a page select

/-- The bytes of the prefixes in base-page position (R264). -/
def prefixBytes : List Byte := [0x40, 0x49, 0x52, 0x5B, 0xCB, 0xDD, 0xED, 0xFD]

theorem mem_prefixBytes_iff :
    ∀ b : Byte, b ∈ prefixBytes ↔ isModeSelect b = true ∨ (b = 0xDD ∨ b = 0xFD) ∨ b = 0xED ∨ b = 0xCB := by
  decide

/-- The bytes of the prefixes select no row of a table (R110 to R117). -/
theorem classify_prefixBytes (ms : Bool) (rs : RegSet) : ∀ b ∈ prefixBytes,
    home (classify (.base ms rs) b) ≠ baseHome rs ∧ isFull (classify (.base ms rs) b) = false := by
  cases ms <;> cases rs <;> decide

/-- A byte selects a row of the register set's table unless it is one of the prefixes (R110 to R117). -/
theorem home_classify_base_iff (ms : Bool) (rs : RegSet) (b : Byte) :
    home (classify (.base ms rs) b) = baseHome rs ↔ b ∉ prefixBytes := by
  refine ⟨fun h hb => (classify_prefixBytes ms rs b hb).1 h, fun hb => ?_⟩
  rw [mem_prefixBytes_iff] at hb
  have hcases := classify_base ms rs b
  tauto

/-- The list of R301 has none of the prefixes. -/
theorem prefixBytes_disjoint : prefixBytes.Disjoint indexInsensitiveBytes := by
  intro b hb hins
  refine (classify_prefixBytes false .ix b hb).1 ?_
  rw [(classify_indexInsensitive b (by simpa [indexInsensitive] using hins) false).1]
  rfl

/-- Every row of the base table has its form in the table of 40_base_page.md. -/
theorem exists_baseForm {i : Instr} (h : home i = .base) : ∃ f, baseForm i = some f := by
  cases i
  all_goals cases h
  all_goals exact ⟨_, rfl⟩

/-- A byte of R301 is the opcode of a base row, so it has a text under DD and FD too. -/
theorem isFull_ignored {op : Byte} (h : indexInsensitive op = true) :
    isFull (.baseIxIgnored op) = true ∧ isFull (.baseIyIgnored op) = true := by
  have hop : op ∉ prefixBytes := fun hp => prefixBytes_disjoint hp (by simpa [indexInsensitive] using h)
  simp only [mem_prefixBytes_iff, not_or, Bool.not_eq_true] at hop
  obtain ⟨hms, ⟨hdd, hfd⟩, hed, hcb⟩ := hop
  obtain ⟨f, hf⟩ := exists_baseForm (home_classifyBase op hms hdd hfd hed hcb)
  simp [isFull, formOf, formIgnored, hf, Option.isSome_iff_ne_none, baseForm_body_ne_none hf]

/-- A well-formed row of a page has a text unless it is unrepresented (R123). -/
theorem unrepresented_of_not_isFull {i : Instr} (hpage : (home i).isPage = true) (hw : i.wellFormed = true)
    (h : isFull i = false) :
    ∃ op, i = .unrepIxCb op ∨ i = .unrepIyCb op ∨ i = .unrepEd op ∨ i = .unrepEdBlock op := by
  cases i
  case modeSelect | indexPrefix | cbPrefix | edPrefix | prefixOnly => cases hpage
  case baseIxIgnored op => simp [(isFull_ignored hw).1] at h
  case baseIyIgnored op => simp [(isFull_ignored hw).2] at h
  case unrepIxCb | unrepIyCb | unrepEd | unrepEdBlock => simp
  all_goals cases h

/-- A byte that selects a row of a page without a text selects the unrepresented row of its own (R123). -/
theorem classify_of_not_isFull {c : Ctx} {b : Byte} (hpage : (home (classify c b)).isPage = true)
    (h : isFull (classify c b) = false) :
    classify c b = .unrepIxCb b ∨ classify c b = .unrepIyCb b ∨ classify c b = .unrepEd b ∨
      classify c b = .unrepEdBlock b := by
  obtain ⟨hw, hb⟩ := classify_own_byte c b
  obtain ⟨op, hop⟩ := unrepresented_of_not_isFull hpage hw h
  obtain rfl : op = b := by
    rcases hop with hop | hop | hop | hop <;> (rw [hop] at hb; exact Option.some.inj (hb nofun))
  exact hop

/-- In base-page position a byte selects a row with a text unless it is one of the prefixes (R264). -/
theorem isFull_classify_base_iff (ms : Bool) (rs : RegSet) (b : Byte) :
    isFull (classify (.base ms rs) b) = true ↔ b ∉ prefixBytes := by
  refine ⟨fun h hb => by simp [(classify_prefixBytes ms rs b hb).2] at h, fun hb => ?_⟩
  have hh := (home_classify_base_iff ms rs b).mpr hb
  have hpage : (home (classify (.base ms rs) b)).isPage = true := by rw [hh]; cases rs <;> rfl
  by_contra hfull
  rcases classify_of_not_isFull hpage (by simpa using hfull) with hc | hc | hc | hc <;>
    (rw [hc] at hh; cases rs <;> cases hh)

/-- Under DD and FD the unchanged bytes are those of R301. -/
theorem isIgnored_classify_iff (ms : Bool) {rs : RegSet} (hrs : rs ≠ .hl) (b : Byte) :
    isIgnored (classify (.base ms rs) b) = true ↔ b ∈ indexInsensitiveBytes := by
  constructor
  · intro h
    obtain ⟨hw, hb⟩ := classify_own_byte (.base ms rs) b
    cases hi : classify (.base ms rs) b with
    | baseIxIgnored op | baseIyIgnored op =>
      rw [hi] at hw hb
      obtain rfl : op = b := Option.some.inj (hb nofun)
      simpa [Instr.wellFormed, indexInsensitive] using hw
    | _ => simp [hi, isIgnored] at h
  · intro hb
    have hc := classify_indexInsensitive b (by simpa [indexInsensitive] using hb) ms
    cases rs with
    | hl => exact absurd rfl hrs
    | ix => rw [hc.1]; rfl
    | iy => rw [hc.2]; rfl

/-- The mode-selects are selected by their four bytes, under every register set (R114). -/
theorem home_classify_eq_modeSelect_iff (rs : RegSet) (b : Byte) :
    home (classify (.base false rs) b) = .modeSelect ↔ isModeSelect b = true := by
  constructor
  · intro h
    cases hi : classify (.base false rs) b with
    | modeSelect sfx => exact (classify_eq_modeSelect hi).2.1
    | _ => rw [hi] at h; cases h
  · intro h
    rw [classify_modeSelect false rs h]
    rfl

theorem classify_eq_cbPrefix_iff (ms : Bool) (rs : RegSet) (b : Byte) :
    classify (.base ms rs) b = .cbPrefix ↔ b = 0xCB := by
  refine ⟨fun h => eq_of_classify h rfl, ?_⟩
  rintro rfl
  cases rs <;> rfl

/-- Every CB opcode is represented (R350 to R361). -/
theorem isFull_classify_cb (b : Byte) : isFull (classify .cb b) = true := by
  have hh : home (classify .cb b) = .cb := home_classifyCb b
  by_contra hfull
  rcases classify_of_not_isFull (by rw [hh]; rfl) (by simpa using hfull) with hc | hc | hc | hc <;>
    (rw [hc] at hh; cases hh)

/-- The unrepresented ED opcodes are those of R442 and R507. -/
theorem isFull_classify_ed_iff (b : Byte) :
    isFull (classify .ed b) = false ↔ b ∈ unrepresentedEdBytes ++ unrepresentedEdBlockBytes := by
  have hh : home (classify .ed b) = .ed := home_classifyEd b
  have hw := (classify_own_byte .ed b).1
  constructor
  · intro h
    rcases classify_of_not_isFull (by rw [hh]; rfl) h with hc | hc | hc | hc <;> rw [hc] at hh hw
    · cases hh
    · cases hh
    · exact List.mem_append_left _ (by simpa [Instr.wellFormed, unrepresentedEd] using hw)
    · exact List.mem_append_right _ (by simpa [Instr.wellFormed, unrepresentedEdBlock] using hw)
  · intro h
    rcases List.mem_append.mp h with h | h
    · rw [classify_unrepEd b (by simpa [unrepresentedEd] using h)]
      rfl
    · rw [classify_unrepEdBlock b (by simpa [unrepresentedEdBlock] using h)]
      rfl

/-- The 32 bytes with z = 6. -/
def zSixBytes : List Byte := (List.range 32).map fun v => BitVec.ofNat 8 (8 * v + 6)

theorem mem_zSixBytes_iff (b : Byte) : b ∈ zSixBytes ↔ b &&& 7 = 6 := by
  have hand : (b &&& 7).toNat = b.toNat % 8 := by
    rw [BitVec.toNat_and]
    exact Nat.and_two_pow_sub_one_eq_mod b.toNat 3
  have hsix : (6 : Byte).toNat = 6 := rfl
  have hb := b.isLt
  simp only [zSixBytes, List.mem_map, List.mem_range, ← BitVec.toNat_inj, hand, hsix, BitVec.toNat_ofNat]
  constructor
  · rintro ⟨v, hv, h⟩
    omega
  · exact fun h => ⟨b.toNat / 8, by omega, by omega⟩

/-- The represented indexed-CB opcodes are those with z = 6 (R374). -/
theorem isFull_classify_indexCb_iff (x : IndexReg) (b : Byte) :
    isFull (classify (.indexCb x) b) = false ↔ b ∉ zSixBytes := by
  rw [mem_zSixBytes_iff]
  have hh : home (classify (.indexCb x) b) = .indexCb x := home_classifyIndexCb x b
  have hw := (classify_own_byte (.indexCb x) b).1
  constructor
  · intro h
    rcases classify_of_not_isFull (by rw [hh]; rfl) h with hc | hc | hc | hc <;> rw [hc] at hh hw
    · simpa [Instr.wellFormed] using hw
    · simpa [Instr.wellFormed] using hw
    · cases hh
    · cases hh
  · intro h
    have hc := classify_unrepIndexCb b (by simpa using h)
    cases x with
    | ix => rw [hc.1]; rfl
    | iy => rw [hc.2]; rfl

/-- The rules of the base rows are R200 to R263. -/
theorem ruleOf_base {i : Instr} (h : home i = .base) : ∃ rule, ruleOf i = some rule ∧ 200 ≤ rule ∧ rule < 264 := by
  have hany : (ruleOf i).any (fun rule => 200 ≤ rule && rule < 264) = true := by
    cases i
    all_goals cases h <;> rfl
  simpa [Option.any_eq_true] using hany

/-- Settles O54: on each page the bytes of a kind are those of a list. -/
theorem pageCounts : Obligations.PageCounts := by
  have hfew : prefixBytes.Nodup := by decide
  have hbase : ∀ b, home (classify (.base false .hl) b) = .base ↔ b ∉ prefixBytes := home_classify_base_iff false .hl
  refine ⟨⟨countBytes_of_mem_iff hfew fun b => ?_, fun b => (hbase b).not.trans not_not⟩,
    countBytes_of_notMem_iff hfew fun b => ?_, fun b h => ?_, fun rs hrs => ⟨?_, ?_, ?_, ?_, ?_⟩, ?_, ?_, fun x => ?_⟩
  · simp [hbase]
  · simp [hbase, isFull_classify_base_iff]
  · obtain ⟨rule, hrule, hlo, hhi⟩ := ruleOf_base h
    exact ⟨rule - 200, List.mem_range.mpr (by omega), by rw [hrule, Nat.add_sub_cancel' hlo]⟩
  · refine countBytes_of_mem_iff (l := [0x40, 0x49, 0x52, 0x5B]) (by decide) fun b => ?_
    rw [beq_iff_eq, home_classify_eq_modeSelect_iff]
    revert b
    decide
  · refine countBytes_of_mem_iff (l := [0xDD, 0xFD, 0xED]) (by decide) fun b => ?_
    simp [classify_eq_prefixOnly_iff, hrs]
  · refine countBytes_of_mem_iff (l := [0xCB]) (by decide) fun b => ?_
    simp [classify_eq_cbPrefix_iff]
  · exact countBytes_of_mem_iff indexInsensitiveBytes_nodup (isIgnored_classify_iff false hrs)
  · have hlength : indexInsensitiveBytes.length = 153 := rfl
    rw [show 95 = 256 - (prefixBytes ++ indexInsensitiveBytes).length by simp [hlength, prefixBytes]]
    refine countBytes_of_notMem_iff (hfew.append indexInsensitiveBytes_nodup prefixBytes_disjoint) fun b => ?_
    simp [isFull_classify_base_iff, ← isIgnored_classify_iff false hrs]
  · refine countBytes_of_mem_iff (unrepresentedEdBytes_nodup.append (by decide) unrepresentedEd_disjoint) fun b => ?_
    simp [isFull_classify_ed_iff]
  · exact countBytes_of_mem_iff (l := []) List.nodup_nil fun b => by simp [isFull_classify_cb]
  · exact countBytes_of_notMem_iff (l := zSixBytes) (by decide) fun b => by simp [isFull_classify_indexCb_iff]

end Sys2Proof.Machine

namespace Sys2Proof.Machine

open Sys2Proof.Claims

-- The operand tables under DD and FD (R105, R109, R300): the text of an entry is the spelling of the rule

theorem aluText_aluOf (y : Fin 8) : aluText (aluOf y) = aluName y := by revert y; decide
theorem indexedPairText_pairOf (x : IndexReg) (p : Fin 4) : indexedPairText x (pairOf p) = rpIndexName x p := by
  cases x <;> (revert p; decide)
theorem halfText_halfOf (x : IndexReg) {y : Fin 8} (hy : y = 4 ∨ y = 5) : halfText x (halfOf y) = halfName x y := by
  cases x <;> (revert y; decide)
theorem subText_reg8Of (x : IndexReg) (y : Fin 8) : subText x (reg8Of y) = subName x y := by
  cases x <;> (revert y; decide)

/-- The loads with a half name registers, one of them halved (R316). -/
theorem wellFormed_ldHalves (x : IndexReg) : ∀ y z : Fin 8, y ≠ 6 → z ≠ 6 → (y = 4 ∨ y = 5 ∨ z = 4 ∨ z = 5) →
    (perIndex x (.ldIxHalves (reg8Of y) (reg8Of z)) (.ldIyHalves (reg8Of y) (reg8Of z))).wellFormed = true := by
  cases x <;> decide

theorem opcode_ldHalves (x : IndexReg) : ∀ y z : Fin 8,
    opcode (perIndex x (.ldIxHalves (reg8Of y) (reg8Of z)) (.ldIyHalves (reg8Of y) (reg8Of z))) =
      some (BitVec.ofNat 8 (0x40 + 8 * y.val + z.val)) := by
  cases x <;> decide

/-- Settles O8: each row from its opcode and its form, for the two index registers. -/
theorem indexedPlainRows : Obligations.IndexedPlainRows := by
  refine ⟨fun x p => ?add, ?_, ?_, fun x y hy => ?incHalf, fun x y hy => ?decHalf, fun x y z hy hz h => ?ldHalves,
    fun x y z hz => ?aluHalf, ?_, ?_, ?_, ?_, ?_⟩
  case add =>
    cases x <;> exact plainRow_of_form rfl rfl (by revert p; decide) fun _ => by rw [← indexedPairText_pairOf]; rfl
  case incHalf =>
    cases x <;> exact plainRow_of_form rfl rfl (by revert y; decide) fun _ => by rw [← halfText_halfOf _ hy]; rfl
  case decHalf =>
    cases x <;> exact plainRow_of_form rfl rfl (by revert y; decide) fun _ => by rw [← halfText_halfOf _ hy]; rfl
  case ldHalves =>
    have hw := wellFormed_ldHalves x y z hy hz h
    have hb := opcode_ldHalves x y z
    cases x <;> exact plainRow_of_form rfl hw hb fun _ => by rw [← subText_reg8Of, ← subText_reg8Of]; rfl
  case aluHalf =>
    cases x <;> exact plainRow_of_form rfl rfl (by revert y z; decide) fun _ => by
      rw [← halfText_halfOf _ hz, ← aluText_aluOf]; rfl
  all_goals
    intro x
    cases x <;> exact plainRow_of_form rfl rfl rfl fun _ => rfl

-- A row with a displacement, from its opcode and its form

section IndexedRows

variable {h : Home} {i : Instr} {b : Byte} {rule : Nat} {kw : String}

/-- A row with a displacement: its operands are rendered once `d` is latched. -/
theorem rowD_of_form (operands : List Operand) {ops : Int → List String} (hh : home i = h) (hw : i.wellFormed = true)
    (hb : opcode i = some b) (hf : ∀ k, formOf k i = some (fullForm rule (pageOf h) .d kw operands))
    (ho : ∀ (s : State) v, renderOperands { s with d := some v } operands = some (ops v)) : RowD h b i rule kw ops :=
  ⟨selects_of_form hh hw hb (hf .srl), completesD_of operands hf fun s v hv => by rw [← ho s v, ← hv],
    faults_of_form fun k => ⟨_, hf k⟩⟩

/-- A row with a displacement and an immediate byte: its operands are rendered once `d` and `n` are latched. -/
theorem rowDN_of_form (operands : List Operand) {ops : Int → Byte → List String} (hh : home i = h)
    (hw : i.wellFormed = true) (hb : opcode i = some b)
    (hf : ∀ k, formOf k i = some (fullForm rule .base .dn kw operands))
    (ho : ∀ (s : State) v u, renderOperands { s with d := some v, n := some u } operands = some (ops v u)) :
    RowDN h b i rule kw ops :=
  ⟨selects_of_form hh hw hb (hf .srl), completesDN_of operands hf fun s v u hv hu => by rw [← ho s v u, ← hv, ← hu],
    faults_of_form fun k => ⟨_, hf k⟩⟩

end IndexedRows

/-- Settles O9: each row from its opcode and its form; 0x76 is in the list of R301. -/
theorem indexedDisplacementRows : Obligations.IndexedDisplacementRows := by
  refine ⟨?_, ?_, fun x y hy => ?ldRInd, notSubstituted_of_indexInsensitive rfl, fun x z hz => ?ldIndR,
    fun x y => ?alu, fun x p hp => ?ldRrInd, ?_, fun x p hp => ?ldIndRr, ?_, ?_, ?_⟩
  case ldRInd =>
    cases x <;> exact rowD_of_form [.name (rName y), .ind _] rfl (by revert y; decide) (by revert y; decide)
      (fun _ => by rw [← reg8Text_reg8Of]; rfl) fun _ _ => rfl
  case ldIndR =>
    cases x <;> exact rowD_of_form [.ind _, .name (rName z)] rfl (by revert z; decide) (by revert z; decide)
      (fun _ => by rw [← reg8Text_reg8Of]; rfl) fun _ _ => rfl
  case alu =>
    cases x <;> exact rowD_of_form [.name "A", .ind _] rfl rfl (by revert y; decide)
      (fun _ => by rw [← aluText_aluOf]; rfl) fun _ _ => rfl
  case ldRrInd =>
    cases x <;> exact rowD_of_form [.name (rpName p), .ind _] rfl (by revert p; decide) (by revert p; decide)
      (fun _ => by rw [← pairText_pairOf]; rfl) fun _ _ => rfl
  case ldIndRr =>
    cases x <;> exact rowD_of_form [.ind _, .name (rpName p)] rfl (by revert p; decide) (by revert p; decide)
      (fun _ => by rw [← pairText_pairOf]; rfl) fun _ _ => rfl
  all_goals
    intro x
    cases x <;> exact rowD_of_form _ rfl rfl rfl (fun _ => rfl) fun _ _ => rfl

/-- Settles O10: each row from its opcode and its form. -/
theorem indexedImmediateRows : Obligations.IndexedImmediateRows := by
  refine ⟨?ldWord, ?ldMem, ?ldFromMem, fun x y hy => ?ldHalf, fun x => ?ldInd⟩
  case ldHalf =>
    cases x <;> exact rowN_of_form [.name (halfName _ y), .byte] rfl rfl (by revert y; decide)
      (fun _ => by rw [← halfText_halfOf _ hy]; rfl) fun _ _ => rfl
  case ldInd => cases x <;> exact rowDN_of_form _ rfl rfl rfl (fun _ => rfl) fun _ _ _ => rfl
  all_goals
    intro x
    cases x <;> exact rowW_of_form _ (.inl rfl) rfl rfl rfl (fun _ => rfl) fun _ _ => rfl

-- The rows an index register leaves unchanged (R301)

/-- A byte of R301 selects a base row, so the rows of R301 run the form of that row under rule 301. -/
theorem exists_formIgnored {op : Byte} (h : indexInsensitive op = true) :
    ∃ f, baseForm (classifyBase op) = some f ∧ ∀ k x,
      formOf k (perIndex x (.baseIxIgnored op) (.baseIyIgnored op)) = some { f with rule := 301 } := by
  have hfull := (isFull_ignored h).1
  cases hf : baseForm (classifyBase op) with
  | none => simp [isFull, formOf, formIgnored, hf] at hfull
  | some f => exact ⟨f, rfl, fun k x => by cases x <;> simp [perIndex, formOf, formIgnored, hf]⟩

/-- An instruction that goes on is not complete. -/
theorem OpenByte.phase_ne_complete {s u : State} {i : Instr} {b : Byte} (hs : s.phase ≠ .complete)
    (h : OpenByte s b i u) : u.phase ≠ .complete := by
  cases h with
  | indexPrefix x => cases x <;> nofun
  | displacement | operandD | operandW => exact hs
  | modeSelect | edPrefix | cbPrefix | indexCbPrefix | opcode => nofun

/-- A row with a text that completes in a read leaves a full record under the rule of its form (R123). -/
theorem exec_completes_full {i : Instr} {f : Form} {s t : State} (hf : formOf s.params.cbY7Mnemonic i = some f)
    (hbody : f.body ≠ none) (hs : s.phase ≠ .complete) (h : exec i s = .next t) (ht : t.phase = .complete) :
    ∃ r, t.output = some r ∧ r.form = some f.rule ∧ r.kind = .full := by
  by_cases hrun : s.runState = .running
  · rcases exec_next hrun h with ⟨-, rfl⟩ | ⟨b, -, hread⟩
    · exact absurd ht hs
    · cases hread with
      | goesOn hu => exact absurd ht (hu.phase_ne_complete hs)
      | completes hf' hu hc =>
        obtain rfl := Option.some.inj (hf.symm.trans hf')
        rcases complete_next hc with ⟨hnone, -⟩ | ⟨kw, operands, ts, -, -, rfl⟩
        · exact absurd hnone hbody
        · exact ⟨_, rfl, rfl, rfl⟩
      | endsPrefixOnly hi => subst hi; cases hf
  · rw [exec_eq_runForm hf, runForm, withRead_inactive _ hrun] at h
    cases h
    exact absurd ht hs

/-- Settles O59: a row of R301 runs the form of a base row, which has a text, under rule 301. -/
theorem indexInsensitiveRowsRecordForm301 : Obligations.IndexInsensitiveRowsRecordForm301 := by
  intro x op hop s t hs h ht
  obtain ⟨f, hf, hignored⟩ := exists_formIgnored hop
  exact exec_completes_full (hignored _ x) (baseForm_body_ne_none (f := f) hf) hs h ht

theorem formOf_of_baseForm {i : Instr} {f : Form} (h : baseForm i = some f) (k : CbY7Mnemonic) :
    formOf k i = some f := by
  cases i
  all_goals cases h
  all_goals rfl

-- Which latch the operands of a base row show

/-- Can a base row of this recipe show the operand? No base row has a displacement to show (R120). -/
def Operand.shownBy : Operand → Recipe → Bool
  | .name _, _ => true
  | .byte, .n | .port, .n | .target, .e | .word, .w | .mem, .w => true
  | _, _ => false

/-- Is this the form of a row of the base page that has a text and shows only what its recipe latches? -/
def Form.isBaseRow (f : Form) : Bool :=
  f.page == .base && f.recipe != .d && f.recipe != .dn && f.body.any fun text => text.2.all (·.shownBy f.recipe)

theorem baseForm_isBaseRow {i : Instr} {f : Form} (h : baseForm i = some f) : f.isBaseRow = true := by
  cases i
  all_goals cases h <;> rfl

/-- The value of a latch alone gives the text of the operand. -/
def Operand.RenderedBy {α : Type} (o : Operand) (latch : State → Option α) : Prop :=
  ∃ text : α → String, ∀ s v, latch s = some v → renderOperand s o = some (text v)

section RenderedBy

variable {α : Type} {latch : State → Option α} {o : Operand}

theorem Operand.renderedBy_name (t : String) : (Operand.name t).RenderedBy latch := ⟨fun _ => t, fun _ _ _ => rfl⟩

theorem Operand.renderedBy_of_map {text : α → String} (h : ∀ s, renderOperand s o = (latch s).map text) :
    o.RenderedBy latch :=
  ⟨text, fun s v hv => by rw [h, hv]; rfl⟩

/-- Operands that a latch renders one by one are rendered together by it. -/
theorem renderOperands_of_renderedBy {operands : List Operand} (h : ∀ o ∈ operands, o.RenderedBy latch) :
    ∃ ops : α → List String, ∀ s v, latch s = some v → renderOperands s operands = some (ops v) := by
  induction operands with
  | nil => exact ⟨fun _ => [], fun _ _ _ => rfl⟩
  | cons o os ih =>
    obtain ⟨text, htext⟩ := h o List.mem_cons_self
    obtain ⟨ops, hops⟩ := ih fun q hq => h q (List.mem_cons_of_mem o hq)
    exact ⟨fun v => text v :: ops v, fun s v hv => by rw [renderOperands, htext s v hv, hops s v hv]⟩

end RenderedBy

theorem Operand.renderedBy_of_none {o : Operand} (h : o.shownBy .none = true) : o.RenderedBy fun _ => some () := by
  cases o with
  | name t => exact renderedBy_name t
  | byte | port | target | word | mem | ind | disp => cases h

theorem Operand.renderedBy_of_n {o : Operand} (h : o.shownBy .n = true) : o.RenderedBy State.n := by
  cases o with
  | name t => exact renderedBy_name t
  | byte | port => exact renderedBy_of_map fun _ => rfl
  | target | word | mem | ind | disp => cases h

theorem Operand.renderedBy_of_e {o : Operand} (h : o.shownBy .e = true) : o.RenderedBy State.e := by
  cases o with
  | name t => exact renderedBy_name t
  | target => exact renderedBy_of_map fun _ => rfl
  | byte | port | word | mem | ind | disp => cases h

theorem Operand.renderedBy_of_w {o : Operand} (h : o.shownBy .w = true) : o.RenderedBy State.w := by
  cases o with
  | name t => exact renderedBy_name t
  | word | mem => exact renderedBy_of_map fun _ => rfl
  | byte | port | target | ind | disp => cases h

-- A base form completes with the same record in every row that runs it

theorem execTimes_succ_of_next {i : Instr} {s t : State} (k : Nat) (h : exec i s = .next t) :
    execTimes (k + 1) i s = execTimes k i t := by
  simp [execTimes, h]

/-- Reads of a row that go through begin with one that does. -/
theorem exec_next_of_execTimes {i : Instr} {s t : State} {k : Nat} (h : execTimes (k + 1) i s = .next t) :
    ∃ u, exec i s = .next u := by
  cases hu : exec i s with
  | next u => exact ⟨u, rfl⟩
  | fault | refused => simp [execTimes, hu] at h

/-- From `s`, the opcode `b` and the operand bytes `bs` complete every row that runs the form under some rule, with a
record that depends on the rule only in naming it. -/
def Form.CompletesFrom (f : Form) (s : State) (b : Byte) (bs : List Byte) : Prop :=
  ∃ d n w e text, ∀ i rule, (∀ k, formOf k i = some { f with rule := rule }) →
    execTimes (bs.length + 1) i s = .next (completedBy s (bs.length + 1)
      (recordAfter s (b :: bs) (some b) (some .base) d n w e .full (some rule) text))

section CompletesFrom

variable {rule : Nat} {kw : String} {operands : List Operand} {s : State} {b : Byte}

theorem completesFrom_plain (hops : ∀ o ∈ operands, o.shownBy .none = true) (ha : AtOpcode s .base)
    (hb : Holds s s.cursor [b]) : (fullForm rule .base .none kw operands).CompletesFrom s b [] := by
  obtain ⟨ops, ho⟩ := renderOperands_of_renderedBy fun o h => Operand.renderedBy_of_none (hops o h)
  refine ⟨s.d, s.n, s.w, s.e, rendered kw s.suffix (ops ()), fun i rule hf => ?_⟩
  exact execTimes_succ_of_next 0
    (completesPlain_of (kw := fun _ => kw) operands (fun _ => hf _) (fun u => ho u () rfl) s b ha hb)

theorem completesFrom_n {v : Byte} (hops : ∀ o ∈ operands, o.shownBy .n = true) (ha : AtOpcode s .base)
    (hb : Holds s s.cursor [b, v]) : (fullForm rule .base .n kw operands).CompletesFrom s b [v] := by
  obtain ⟨ops, ho⟩ := renderOperands_of_renderedBy fun o h => Operand.renderedBy_of_n (hops o h)
  refine ⟨s.d, some v, s.w, s.e, rendered kw s.suffix (ops v), fun i rule hf => ?_⟩
  obtain ⟨t, hopcode, hbyte⟩ := completesN_of operands hf ho s b v ha hb
  exact (execTimes_succ_of_next 1 hopcode).trans (execTimes_succ_of_next 0 hbyte)

theorem completesFrom_e {v : Byte} (hops : ∀ o ∈ operands, o.shownBy .e = true) (ha : AtOpcode s .base)
    (hb : Holds s s.cursor [b, v]) : (fullForm rule .base .e kw operands).CompletesFrom s b [v] := by
  obtain ⟨ops, ho⟩ := renderOperands_of_renderedBy fun o h => Operand.renderedBy_of_e (hops o h)
  let e : Addr := s.cursor + 2 + v.signExtend 24
  refine ⟨s.d, s.n, s.w, some e, rendered kw s.suffix (ops e), fun i rule hf => ?_⟩
  obtain ⟨t, hopcode, htarget⟩ := completesE_of operands hf ho s b v ha hb
  exact (execTimes_succ_of_next 1 hopcode).trans (execTimes_succ_of_next 0 htarget)

theorem completesFrom_longWord {lo mid hi : Byte} (hops : ∀ o ∈ operands, o.shownBy .w = true)
    (ha : AtOpcode s .base) (hlong : LongWord s) (hb : Holds s s.cursor [b, lo, mid, hi]) :
    (fullForm rule .base .w kw operands).CompletesFrom s b [lo, mid, hi] := by
  obtain ⟨ops, ho⟩ := renderOperands_of_renderedBy fun o h => Operand.renderedBy_of_w (hops o h)
  let w := leWord lo mid hi
  refine ⟨s.d, s.n, some w, s.e, rendered kw s.suffix (ops w), fun i rule hf => ?_⟩
  obtain ⟨t₁, t₂, t₃, hopcode, hlo, hmid, hhi⟩ :=
    (completesW_of operands (.inl rfl) hf ho s b lo mid ha).1 hlong hi hb
  calc execTimes 4 i s = execTimes 3 i t₁ := execTimes_succ_of_next 3 hopcode
    _ = execTimes 2 i t₂ := execTimes_succ_of_next 2 hlo
    _ = execTimes 1 i t₃ := execTimes_succ_of_next 1 hmid
    _ = _ := execTimes_succ_of_next 0 hhi

theorem completesFrom_shortWord {lo mid : Byte} (hops : ∀ o ∈ operands, o.shownBy .w = true)
    (ha : AtOpcode s .base) (hshort : ¬ LongWord s) (hb : Holds s s.cursor [b, lo, mid]) :
    (fullForm rule .base .w kw operands).CompletesFrom s b [lo, mid] := by
  obtain ⟨ops, ho⟩ := renderOperands_of_renderedBy fun o h => Operand.renderedBy_of_w (hops o h)
  let w := leWord lo mid ((s.cursor + 3).extractLsb' 16 8)
  refine ⟨s.d, s.n, some w, s.e, rendered kw s.suffix (ops w), fun i rule hf => ?_⟩
  obtain ⟨t₁, t₂, hopcode, hlo, hmid⟩ := (completesW_of operands (.inl rfl) hf ho s b lo mid ha).2 hshort hb
  calc execTimes 3 i s = execTimes 2 i t₁ := execTimes_succ_of_next 2 hopcode
    _ = execTimes 1 i t₂ := execTimes_succ_of_next 1 hlo
    _ = _ := execTimes_succ_of_next 0 hmid

end CompletesFrom

/-- A base form completes at the last of the bytes its recipe reads (R119, R120). -/
theorem Form.completesFrom_of_isBaseRow {f : Form} (hf : f.isBaseRow = true) {s : State} {b : Byte} {bs : List Byte}
    {long : Bool} (ha : AtOpcode s .base) (hlong : long = true ↔ LongWord s)
    (hlen : bs.length = recipeBytes f.recipe long) (hb : Holds s s.cursor (b :: bs)) : f.CompletesFrom s b bs := by
  obtain ⟨rule, page, recipe, body⟩ := f
  simp only [isBaseRow, Bool.and_eq_true, Option.any_eq_true, List.all_eq_true, beq_iff_eq] at hf hlen
  obtain ⟨⟨⟨rfl, hd⟩, hdn⟩, ⟨kw, operands⟩, rfl, hops⟩ := hf
  cases recipe with
  | none =>
    obtain rfl := List.length_eq_zero_iff.mp hlen
    exact completesFrom_plain hops ha hb
  | n =>
    obtain ⟨v, rfl⟩ := List.length_eq_one_iff.mp hlen
    exact completesFrom_n hops ha hb
  | d => cases hd
  | e =>
    obtain ⟨v, rfl⟩ := List.length_eq_one_iff.mp hlen
    exact completesFrom_e hops ha hb
  | w =>
    cases long with
    | true =>
      obtain ⟨lo, mid, hi, rfl⟩ := List.length_eq_three.mp hlen
      exact completesFrom_longWord hops ha (hlong.mp rfl) hb
    | false =>
      obtain ⟨lo, mid, rfl⟩ := List.length_eq_two.mp hlen
      exact completesFrom_shortWord hops ha (by simpa using hlong) hb
  | dn => cases hdn

/-- A row of R301 completes as the base row of its byte: both run the form of the base row. -/
theorem completesAsBase_ignored {op : Byte} (h : indexInsensitive op = true) (x : IndexReg) :
    CompletesAsBase (perIndex x (.baseIxIgnored op) (.baseIyIgnored op)) op := by
  obtain ⟨f, hf, hignored⟩ := exists_formIgnored h
  have hbase := formOf_of_baseForm hf
  refine ⟨f, hbase .srl, (Form.fits_iff.mp (baseForm_fits hf)).1, fun s b bs long ha hlong hlen hb => ?_⟩
  obtain ⟨d, n, w, e, text, hreads⟩ := Form.completesFrom_of_isBaseRow (baseForm_isBaseRow hf) ha hlong hlen hb
  have hrow := hreads _ 301 fun k => hignored k x
  refine ⟨_, _, 301, hreads _ f.rule hbase, rfl, rfl, rfl, rfl, rfl, ?_, exec_next_of_execTimes hrow, hrow⟩
  have hprefixes : s.rawBytes.length = s.prefixCount := ha.length_eq
  change s.rawBytes.length + (bs.length + 1) = _
  omega

/-- Settles O11: each byte of the list selects its row, which completes as the base row does. -/
theorem indexInsensitiveRows : Obligations.IndexInsensitiveRows := by
  refine ⟨rfl, indexInsensitiveBytes_nodup, rfl, fun x op hop => ⟨?_, completesAsBase_ignored hop x, ?_⟩⟩
  · obtain ⟨hix, hiy⟩ := notSubstituted_of_indexInsensitive hop
    cases x with
    | ix => exact hix
    | iy => exact hiy
  · obtain ⟨f, -, hignored⟩ := exists_formIgnored hop
    exact faults_of_form fun k => ⟨_, hignored k x⟩

end Sys2Proof.Machine

namespace Sys2Proof.Machine

open Sys2Proof.Claims

-- The spellings of the CB page (R136, R358)

/-- A bit number is its digit (R136). -/
theorem bitText_eq_digitName (b : Fin 8) : bitText b = digitName b := by revert b; decide

/-- The keyword of the y = 7 row under the state's parameter (R358). -/
theorem cbY7Text_eq_y7Name (s : State) : cbY7Text s.params.cbY7Mnemonic = y7Name s := by
  unfold y7Name
  cases s.params.cbY7Mnemonic <;> rfl

-- The CB page over its operands

/-- The rows of one rotate or shift over the eight registers (R351 to R357). -/
theorem cbRotate_rows (row : Reg8 → Instr) {o rule : Nat} {kw : String}
    (hrow : ∀ r, home (row r) = .cb ∧ (row r).wellFormed = true)
    (hb : ∀ z : Fin 8, opcode (row (reg8Of z)) = some (BitVec.ofNat 8 (o + z.val)))
    (hf : ∀ k r, formOf k (row r) = some (fullForm rule .cb .none kw [.name (reg8Text r)])) (z : Fin 8) :
    PlainRow .cb (BitVec.ofNat 8 (o + z.val)) (row (reg8Of z)) rule kw [rName z] :=
  plainRow_of_form (hrow _).1 (hrow _).2 (hb z) fun k => by rw [hf, reg8Text_reg8Of]; rfl

/-- The rows of BIT, RES or SET over the bit numbers and the registers (R359 to R361). -/
theorem cbBit_rows (row : Fin 8 → Reg8 → Instr) {o rule : Nat} {kw : String}
    (hrow : ∀ b r, home (row b r) = .cb ∧ (row b r).wellFormed = true)
    (hb : ∀ b z : Fin 8, opcode (row b (reg8Of z)) = some (BitVec.ofNat 8 (o + 8 * b.val + z.val)))
    (hf : ∀ k b r, formOf k (row b r) = some (fullForm rule .cb .none kw [.name (bitText b), .name (reg8Text r)]))
    (b z : Fin 8) :
    PlainRow .cb (BitVec.ofNat 8 (o + 8 * b.val + z.val)) (row b (reg8Of z)) rule kw [digitName b, rName z] :=
  plainRow_of_form (hrow _ _).1 (hrow _ _).2 (hb b z) fun k => by
    rw [hf, bitText_eq_digitName, reg8Text_reg8Of]; rfl

/-- Settles O12: the seven rotates and shifts over the registers, the three bit operations over bits and registers. -/
theorem cbRotateAndBitRows : Obligations.CbRotateAndBitRows :=
  ⟨cbRotate_rows .rlcR (fun _ => ⟨rfl, rfl⟩) (by decide) fun _ _ => rfl,
    cbRotate_rows .rrcR (fun _ => ⟨rfl, rfl⟩) (by decide) fun _ _ => rfl,
    cbRotate_rows .rlR (fun _ => ⟨rfl, rfl⟩) (by decide) fun _ _ => rfl,
    cbRotate_rows .rrR (fun _ => ⟨rfl, rfl⟩) (by decide) fun _ _ => rfl,
    cbRotate_rows .slaR (fun _ => ⟨rfl, rfl⟩) (by decide) fun _ _ => rfl,
    cbRotate_rows .sraR (fun _ => ⟨rfl, rfl⟩) (by decide) fun _ _ => rfl,
    cbRotate_rows .sllR (fun _ => ⟨rfl, rfl⟩) (by decide) fun _ _ => rfl,
    cbBit_rows .bitBR (fun _ _ => ⟨rfl, rfl⟩) (by decide) fun _ _ _ => rfl,
    cbBit_rows .resBR (fun _ _ => ⟨rfl, rfl⟩) (by decide) fun _ _ _ => rfl,
    cbBit_rows .setBR (fun _ _ => ⟨rfl, rfl⟩) (by decide) fun _ _ _ => rfl⟩

/-- The form of the y = 7 row of the indexed-CB page, for either index register (R370). -/
theorem formOf_srlIndexed (k : CbY7Mnemonic) (x : IndexReg) :
    formOf k (perIndex x .srlIxd .srlIyd) = some (formIndexedCbSrl k x) := by
  cases x <;> rfl

/-- Settles O13: both rows take their keyword from the parameter, which names SRL by default. -/
theorem cbShiftRightLogicalRows : Obligations.CbShiftRightLogicalRows := by
  refine ⟨fun z => ⟨?_, ?_, faults_of_form fun k => ⟨_, rfl⟩⟩, fun x => ⟨?_, ?_, ?_, faults_cbPrefix⟩, rfl⟩
  · exact selects_of_form rfl rfl (by revert z; decide) rfl
  · exact completesPlain_of [.name (rName z)]
      (fun s => by rw [← cbY7Text_eq_y7Name, ← reg8Text_reg8Of]; rfl) fun _ => rfl
  · cases x <;> exact selects_of_form rfl rfl rfl rfl
  · refine completesIndexCb_of [.ind x] (fun s => ?_) fun s d hd => by simp [renderOperands, renderOperand, hd]
    rw [formOf_srlIndexed, ← cbY7Text_eq_y7Name]
    rfl
  · exact faults_of_form fun k => ⟨_, formOf_srlIndexed k x⟩

-- A row of the indexed-CB page, from its opcode and its form

/-- Its operands are rendered from the displacement latched before the opcode (R362). -/
theorem rowIndexCb_of_form {x : IndexReg} {i : Instr} {b : Byte} {rule : Nat} {kw : String} (operands : List Operand)
    {ops : Int → List String} (hh : home i = .indexCb x) (hw : i.wellFormed = true) (hb : opcode i = some b)
    (hf : ∀ k, formOf k i = some (fullForm rule .indexCb .none kw operands))
    (ho : ∀ (s : State) v, renderOperands { s with d := some v } operands = some (ops v)) :
    RowIndexCb x b i rule kw ops :=
  ⟨selects_of_form hh hw hb (hf .srl),
    completesIndexCb_of operands (fun s => hf s.params.cbY7Mnemonic) fun s v hv => by rw [← ho s v, ← hv],
    faults_of_form fun k => ⟨_, hf k⟩, faults_cbPrefix⟩

/-- The rows of BIT, RES or SET on `(s+d)` over the bit numbers (R371 to R373). -/
theorem indexCbBit_rows (row : Fin 8 → Instr) {x : IndexReg} {o rule : Nat} {kw : String}
    (hrow : ∀ b, home (row b) = .indexCb x ∧ (row b).wellFormed = true)
    (hb : ∀ b : Fin 8, opcode (row b) = some (BitVec.ofNat 8 (o + 8 * b.val)))
    (hf : ∀ k b, formOf k (row b) = some (fullForm rule .indexCb .none kw [.name (bitText b), .ind x])) (b : Fin 8) :
    RowIndexCb x (BitVec.ofNat 8 (o + 8 * b.val)) (row b) rule kw fun d => [digitName b, indText x d] :=
  rowIndexCb_of_form _ (hrow b).1 (hrow b).2 (hb b) (fun k => hf k b) fun _ _ => by
    rw [bitText_eq_digitName]; rfl

/-- Settles O14: each row from its opcode and its form, for the two index registers. -/
theorem indexedCbRows : Obligations.IndexedCbRows := by
  refine ⟨?_, ?_, ?_, ?_, ?_, ?_, ?_, fun x => ?bit, fun x => ?reset, fun x => ?setBit⟩
  case bit =>
    cases x with
    | ix => exact indexCbBit_rows .bitBIxd (fun _ => ⟨rfl, rfl⟩) (by decide) fun _ _ => rfl
    | iy => exact indexCbBit_rows .bitBIyd (fun _ => ⟨rfl, rfl⟩) (by decide) fun _ _ => rfl
  case reset =>
    cases x with
    | ix => exact indexCbBit_rows .resBIxd (fun _ => ⟨rfl, rfl⟩) (by decide) fun _ _ => rfl
    | iy => exact indexCbBit_rows .resBIyd (fun _ => ⟨rfl, rfl⟩) (by decide) fun _ _ => rfl
  case setBit =>
    cases x with
    | ix => exact indexCbBit_rows .setBIxd (fun _ => ⟨rfl, rfl⟩) (by decide) fun _ _ => rfl
    | iy => exact indexCbBit_rows .setBIyd (fun _ => ⟨rfl, rfl⟩) (by decide) fun _ _ => rfl
  all_goals
    intro x
    cases x <;> exact rowIndexCb_of_form _ rfl rfl rfl (fun _ => rfl) fun _ _ => rfl

-- The unrepresented rows

/-- An unrepresented row, from its opcode and its form. -/
theorem unrepresentedRow_of_form {h : Home} {i : Instr} {b : Byte} {rule : Nat} (hh : home i = h)
    (hw : i.wellFormed = true) (hb : opcode i = some b)
    (hf : ∀ k, formOf k i = some (unrepresentedForm rule (pageOf h))) : UnrepresentedRow h b i rule :=
  ⟨selects_of_form hh hw hb (hf .srl), completesUnrepresented_of hf, faults_of_form fun k => ⟨_, hf k⟩⟩

/-- The mask of the well-formedness check keeps the field z (R374). -/
theorem and_seven_ne_six {b : Byte} (h : b.toNat % 8 ≠ 6) : (b &&& 7 != 6) = true := by
  have hand : (b &&& 7).toNat = b.toNat % 8 := Nat.and_two_pow_sub_one_eq_mod b.toNat 3
  exact bne_iff_ne.mpr fun h6 => h (by rw [← hand, h6]; rfl)

/-- The unrepresented ED opcodes with x = 3 are all but the six of the page's rows (R442). -/
theorem mem_unrepresentedEdBytes_iff : ∀ b : Byte, 0xC0 ≤ b.toNat →
    (b ∈ unrepresentedEdBytes ↔ b ∉ [0xC2, 0xC3, 0xC7, 0xCA, 0xCB, 0xD7]) := by
  decide

/-- The cells outside the two block tables are unrepresented (R507). -/
theorem unrepresentedEdBlock_cell : ∀ y z : Fin 8, (y < 4 ∧ (z < 2 ∨ 4 < z) ∨ 4 ≤ y ∧ 4 < z) →
    unrepresentedEdBlock (BitVec.ofNat 8 (0x80 + 8 * y.val + z.val)) = true := by
  decide

/-- Settles O15: each row from its opcode, which its list or its field z admits, and its form. -/
theorem unrepresentedRows : Obligations.UnrepresentedRows := by
  refine ⟨fun x b hz => ?_, fun b hb => ?_, mem_unrepresentedEdBytes_iff, fun y z hyz => ?_,
    rfl, unrepresentedEdBytes_nodup, rfl, by decide⟩
  · have hw := and_seven_ne_six hz
    cases x <;> exact ⟨unrepresentedRow_of_form rfl hw rfl fun _ => rfl,
      completesUnrepresentedIndexCb_of fun _ => rfl, faults_cbPrefix⟩
  · exact unrepresentedRow_of_form rfl (by simpa [Instr.wellFormed, unrepresentedEd] using hb) rfl fun _ => rfl
  · exact unrepresentedRow_of_form rfl (unrepresentedEdBlock_cell y z hyz) rfl fun _ => rfl

end Sys2Proof.Machine

namespace Sys2Proof.Machine

open Sys2Proof.Claims

-- The pair table of the ED page (R108): the text of an entry is the spelling of the rule

theorem indexPairText_indexPairOf (x : IndexReg) (p : Fin 4) : indexPairText x (indexPairOf p) = rp3Name x p := by
  cases x <;> (revert p; decide)

-- The bytes beside the rows of the ED page

/-- The cells of the LEA columns with q = 1 (R403, R404). -/
theorem unrepresentedEd_besideLea : ∀ p : Fin 4,
    unrepresentedEd (BitVec.ofNat 8 (0x0A + 16 * p.val)) = true ∧
      unrepresentedEd (BitVec.ofNat 8 (0x0B + 16 * p.val)) = true := by
  decide

/-- The cells of the column of `LD (HL),IY` with another y (R409). -/
theorem unrepresentedEd_besideLdIndHlIy : ∀ y : Fin 8, y ≠ 7 →
    unrepresentedEd (BitVec.ofNat 8 (0x06 + 8 * y.val)) = true := by
  decide

/-- The bytes that mirror NEG on the Z80 select rows of their own (R416). -/
theorem classify_negMirror : ∀ b : Byte, b ∈ [0x4C, 0x54, 0x5C, 0x64, 0x6C, 0x74, 0x7C] →
    classify .ed b ≠ .neg ∧ ∀ o, classify .ed b ≠ .unrepEd o := by
  simp only [List.forall_mem_cons]
  refine ⟨?_, ?_, ?_, ?_, ?_, ?_, ?_, fun _ h => absurd h List.not_mem_nil⟩ <;> exact ⟨nofun, nofun⟩

-- The rows of the ED page

/-- Settles O16: each row from its opcode and its form; the bytes beside them are in the list of R442. -/
theorem edLowPageRows : Obligations.EdLowPageRows := by
  refine ⟨fun y hy => ?in0, classify_unrepEd _ rfl, fun y hy => ?out0,
    fun p => ?leaIx, fun p => classify_unrepEd _ (unrepresentedEd_besideLea p).1,
    fun p => ?leaIy, fun p => classify_unrepEd _ (unrepresentedEd_besideLea p).2,
    fun y => ?tst, fun p => ?ldPair, fun p => ?ldInd,
    plainRow_of_form rfl rfl rfl fun _ => rfl, plainRow_of_form rfl rfl rfl fun _ => rfl,
    fun y hy => classify_unrepEd _ (unrepresentedEd_besideLdIndHlIy y hy)⟩
  case in0 | out0 =>
    exact rowN_of_form _ rfl (by revert y; decide) (by revert y; decide) (fun _ => rfl) fun _ _ => by
      rw [← reg8Text_reg8Of]; rfl
  case leaIx | leaIy =>
    exact rowD_of_form _ rfl rfl (by revert p; decide) (fun _ => rfl) fun _ _ => by
      rw [← indexPairText_indexPairOf]; rfl
  case tst =>
    exact plainRow_of_form rfl rfl (by revert y; decide) fun _ => by rw [← reg8Text_reg8Of]; rfl
  case ldPair | ldInd =>
    exact plainRow_of_form rfl rfl (by revert p; decide) fun _ => by rw [← indexPairText_indexPairOf]; rfl

/-- Settles O17: each row from its opcode and its form, the word loads with the word of the width rule. -/
theorem edArithmeticAndLoadRows : Obligations.EdArithmeticAndLoadRows := by
  refine ⟨fun y hy => ?inC, fun y hy => ?outC, classify_unrepEd _ rfl, classify_unrepEd _ rfl,
    fun p => ?sbc, fun p => ?adc, fun p => ?ldMem, fun p => ?ldFromMem,
    plainRow_of_form rfl rfl rfl fun _ => rfl, classify_negMirror, fun p => ?mlt⟩
  case inC | outC =>
    exact plainRow_of_form rfl (by revert y; decide) (by revert y; decide) fun _ => by
      rw [← reg8Text_reg8Of]; rfl
  case sbc | adc | mlt =>
    exact plainRow_of_form rfl rfl (by revert p; decide) fun _ => by rw [← pairText_pairOf]; rfl
  case ldMem | ldFromMem =>
    exact rowW_of_form _ (.inr rfl) rfl rfl (by revert p; decide) (fun _ => rfl) fun _ _ => by
      rw [← pairText_pairOf]; rfl

/-- Settles O18: each row from its opcode and its form. -/
theorem edAddressAndTestRows : Obligations.EdAddressAndTestRows := by
  refine ⟨?leaIx, ?leaIy, ?tst, ?tstio, ?peaIx, ?peaIy⟩
  case leaIx | leaIy | peaIx | peaIy => exact rowD_of_form _ rfl rfl rfl (fun _ => rfl) fun _ _ => rfl
  case tst | tstio => exact rowN_of_form _ rfl rfl rfl (fun _ => rfl) fun _ _ => rfl

/-- Settles O19: each row from its opcode and its form; the mirrors of RETN by classification. -/
theorem edControlRows : Obligations.EdControlRows := by
  refine ⟨?_, rfl, rfl, classify_unrepEd _ rfl, ?_, ?_, ?_, ?_, ?_, ?_, classify_unrepEd _ rfl, ?_, ?_, ?_⟩
  all_goals exact plainRow_of_form rfl rfl rfl fun _ => rfl

/-- Settles O20: each row from its opcode and its form. -/
theorem edSpecialRegisterRows : Obligations.EdSpecialRegisterRows := by
  refine ⟨?_, ?_, ?_, ?_, ?_, ?_, ?_, ?_⟩
  all_goals exact plainRow_of_form rfl rfl rfl fun _ => rfl

end Sys2Proof.Machine

namespace Sys2Proof.Machine

open Sys2Proof.Claims

-- The rows of the two block tables of the ED page (R470), and the four beside them with x = 3

/-- Settles O21: each row from its opcode and its form, which has no recipe and no operand. -/
theorem edBlockLoadRows : Obligations.EdBlockLoadRows := by
  refine ⟨?ldi, ?cpi, ?ini, ?outi, ?outi2, ?ldd, ?cpd, ?ind, ?outd, ?outd2, ?ldir, ?cpir⟩
  all_goals exact plainRow_of_form rfl rfl rfl fun _ => rfl

/-- Settles O22: each row from its opcode and its form, which has no recipe and no operand. -/
theorem edBlockRepeatRows : Obligations.EdBlockRepeatRows := by
  refine ⟨?inir, ?otir, ?oti2r, ?lddr, ?cpdr, ?indr, ?otdr, ?otd2r, ?inim, ?otim, ?ini2, ?indm⟩
  all_goals exact plainRow_of_form rfl rfl rfl fun _ => rfl

/-- Settles O23: each row from its opcode and its form, 0xCB as an opcode of the page (R118). -/
theorem edBlockEz80Rows : Obligations.EdBlockEz80Rows := by
  refine ⟨?otdm, ?ind2, ?inimr, ?otimr, ?ini2r, ?indmr, ?otdmr, ?ind2r, ?inirx, ?otirx, ?indrx, ?otdrx⟩
  all_goals exact plainRow_of_form rfl rfl rfl fun _ => rfl

end Sys2Proof.Machine

namespace Sys2Proof.Machine

open Sys2Proof.Claims

-- Every row is one read

/-- A well-formed row has a form or is a row of one of the prefixes. -/
theorem exists_form_or_not_isPage {i : Instr} (hw : i.wellFormed = true) (k : CbY7Mnemonic) :
    (∃ f, formOf k i = some f) ∨ (home i).isPage = false := by
  cases hf : formOf k i with
  | some f => exact .inl ⟨f, rfl⟩
  | none =>
    refine .inr ?_
    rcases formOf_none hf with ⟨_, rfl⟩ | ⟨_, rfl⟩ | rfl | rfl | rfl | ⟨op, hop⟩
    iterate 5 rfl
    have hins : indexInsensitive op = true := by rcases hop with rfl | rfl <;> exact hw
    obtain ⟨f, -, hignored⟩ := exists_formIgnored hins
    rcases hop with rfl | rfl
    · cases hf.symm.trans (hignored k .ix)
    · cases hf.symm.trans (hignored k .iy)

/-- A well-formed row is one read and what follows the byte (R708). -/
theorem exec_eq_withRead {i : Instr} (hw : i.wellFormed = true) (s : State) : ∃ k, exec i s = withRead s k := by
  rcases exists_form_or_not_isPage hw s.params.cbY7Mnemonic with ⟨f, hf⟩ | hpage
  · exact ⟨_, exec_eq_runForm hf⟩
  · rcases prefixRow_of_not_isPage hpage with ⟨_, rfl⟩ | ⟨_, rfl⟩ | rfl | rfl | rfl
    all_goals exact ⟨_, rfl⟩

/-- With no run active no row reads, and nothing changes (R602 (d), R42). -/
theorem exec_inactive {i : Instr} {s : State} (hw : i.wellFormed = true) (hrun : s.runState ≠ .running) :
    exec i s = .next s := by
  obtain ⟨k, hk⟩ := exec_eq_withRead hw s
  rw [hk, withRead_inactive k hrun]

/-- On an unreadable byte every row is the stream fault (R601, R602). -/
theorem exec_unreadable {i : Instr} {s : State} (hw : i.wellFormed = true) (hrun : s.runState = .running)
    (hr : s.read = none) : exec i s = .next s.raiseStreamFault := by
  obtain ⟨k, hk⟩ := exec_eq_withRead hw s
  rw [hk, withRead_none k hrun hr]

/-- The statements' stream fault is the model's. -/
theorem raiseStreamFault_eq_faultedAt (s : State) : s.raiseStreamFault = faultedAt s := rfl

-- A step of a running block

/-- In the middle of an instruction the row of the next byte is known, unless that byte selects it and cannot be read. -/
theorem State.Shape.exists_nextInstr {s : State} (h : s.Shape) : ∃ row, s.nextInstr = .ok row := by
  by_cases hp : s.phase = .operands
  · simp only [State.Shape, hp] at h
    obtain ⟨p, o, -, hpage, hop, -⟩ := h
    exact ⟨_, nextInstr_operands hp hpage hop⟩
  · by_cases hd : s.phase = .afterIndexCB ∧ s.d = none
    · exact ⟨_, nextInstr_displacement hd.1 hd.2⟩
    · exact ⟨_, nextInstr_of_read hp fun hcb hnone => hd ⟨hcb, hnone⟩⟩

/-- A step of a running block: the stream fault, or the meaning of the row its read belongs to (R708). -/
theorem State.Inv.step_cases {s : State} (hs : s.Inv) (hin : s.inbox = []) (hrun : s.runState = .running) :
    (s.read = none ∧ step s = .next s.settled.raiseStreamFault) ∨
    ∃ i, s.settled.nextInstr = .ok (some i) ∧ step s = exec i s.settled := by
  obtain ⟨row, hrow⟩ := ((settled_inv hs).running_shape (by simpa using hrun)).exists_nextInstr
  cases row with
  | none =>
    refine .inl ⟨by simpa using read_none_of_nextInstr hrow, ?_⟩
    rw [step_of_running hin hrun, runStep, hrow]
  | some i => exact .inr ⟨i, hrow, step_of_row hin hrun hrow⟩

/-- A step at an unreadable byte is the stream fault, whatever row the byte belongs to. -/
theorem State.Inv.step_unreadable {s : State} (hs : s.Inv) (hin : s.inbox = []) (hrun : s.runState = .running)
    (hr : readable s.params s.cursor = false) : step s = .next (faultedAt s.settled) := by
  rw [← raiseStreamFault_eq_faultedAt]
  rcases hs.step_cases hin hrun with ⟨-, hstep⟩ | ⟨i, hi, hstep⟩
  · exact hstep
  · rw [hstep]
    exact exec_unreadable (nextInstr_wellFormed hi) (by simpa using hrun) (by simpa using read_none_iff.mpr hr)

/-- Settles O60: every row and every step is the one operation that raises the fault, and nothing else happens outside a
run. -/
theorem streamFaultKeepsTheOtherRegisters : Obligations.StreamFaultKeepsTheOtherRegisters := by
  refine ⟨fun i hw s hrun hr => exec_unreadable hw hrun (read_none_iff.mpr hr),
    fun s hs hin hrun hr => hs.step_unreadable hin hrun hr, fun s hended => ?_⟩
  have hrun : s.runState ≠ .running := by rcases hended with h | h <;> simp [h]
  exact ⟨fun hin => step_of_inactive hin hrun, fun i hw => exec_inactive hw hrun⟩

/-- Settles O38: the step is the stream fault of the settled state, and no step follows it. -/
theorem streamFaultEndsTheRun : Obligations.StreamFaultEndsTheRun := by
  intro s hs hin hrun hr
  have hout : s.settled.output = none :=
    ((settled_inv hs).inProgress (by simpa using hrun) s.settled_phase_ne_complete).output_none
  refine ⟨_, hs.step_unreadable hin hrun hr, ?_⟩
  rw [← raiseStreamFault_eq_faultedAt]
  refine ⟨by simp, by simp [hout], by simp, by simp, rfl, by simp, by simp [State.completedRun], fun u hu => ?_⟩
  rw [step_of_inactive (by simp [hin]) (by simp)] at hu
  cases hu
  exact ⟨rfl, rfl, rfl⟩

-- The host

/-- Settles O34: the run state decides what the host is answered. -/
theorem hostReadsAfterARun : Obligations.HostReadsAfterARun := by
  refine fun s => ⟨fun hended => ?_, fun hrun r => by simp [hostRead, hrun]⟩
  rcases hended with h | h <;> simp [hostRead, h]

/-- Settles O35: outside a run the request is served; a stream byte by the laws of a read after a write. -/
theorem hostRequestsOutsideARun : Obligations.HostRequestsOutsideARun := by
  refine fun s rest hrun => ⟨fun p hin => ?_, fun a b hwf hin => ?_⟩
  · rw [step_request hin]
    exact if_neg hrun
  · refine ⟨{ s with stream := memWrite s.stream a.toNat b, inbox := rest }, ?_, rfl,
      memRead_memWrite_same s.stream 0 a.toNat b hwf, fun c hc => ?_⟩
    · rw [step_request hin]
      exact if_neg hrun
    · exact memRead_memWrite_other s.stream a.toNat c.toNat b (fun h => hc (BitVec.eq_of_toNat_eq h)) 0 hwf

/-- Serving a request is no fault of the model. -/
theorem serveHost_ne_fault (ev : HostEvent) (s : State) (f : Fault) : serveHost ev s ≠ .fault f := by
  cases ev with
  | start a c flag =>
    simp only [serveHost]
    split
    · nofun
    · split
      · split <;> nofun
      · nofun
  | configure p =>
    simp only [serveHost]
    split <;> nofun
  | setStream a b =>
    simp only [serveHost]
    split <;> nofun

-- A row completes when its bytes are read

/-- The operands that a row of this page and recipe may show: their latch is written when the row completes (R120, R362). -/
def Form.latches (f : Form) : Operand → Bool
  | .name _ => true
  | .byte | .port => f.recipe == .n || f.recipe == .dn
  | .target => f.recipe == .e
  | .word | .mem => f.recipe == .w
  | .ind _ | .disp _ => f.recipe == .d || f.recipe == .dn || f.page == .indexCb

/-- Does the text show only what the row latches? -/
def Form.showsLatched (f : Form) : Bool := f.body.all fun text => text.2.all f.latches

theorem baseForm_showsLatched {i : Instr} {f : Form} (h : baseForm i = some f) : f.showsLatched = true := by
  cases i
  all_goals cases h <;> rfl

/-- Every row's text shows only what the row latches (R120). -/
theorem formOf_showsLatched {k : CbY7Mnemonic} {i : Instr} {f : Form} (h : formOf k i = some f) :
    f.showsLatched = true := by
  cases i
  case baseIxIgnored op | baseIyIgnored op =>
    obtain ⟨g, hg, rfl⟩ := Option.map_eq_some_iff.mp h
    exact baseForm_showsLatched (f := g) hg
  case aluAIxHalf g _ | aluAIyHalf g _ | aluAIxd g | aluAIyd g => cases h; cases g <;> rfl
  all_goals cases h <;> rfl

theorem Form.latches_of_body {f : Form} {kw : String} {operands : List Operand} (hf : f.showsLatched = true)
    (hb : f.body = some (kw, operands)) : ∀ o ∈ operands, f.latches o = true := by
  simpa [showsLatched, hb] using hf

/-- A row with a word that has no displacement shows names and the word. -/
theorem Form.shownBy_w_of_latches {f : Form} {o : Operand} (hr : f.recipe = .w) (hp : f.page ≠ .indexCb)
    (ho : f.latches o = true) : o.shownBy .w = true := by
  cases o with
  | name | word | mem => rfl
  | byte | port | target | ind | disp => simp [latches, hr, hp] at ho

/-- The latches that the row writes hold a value. -/
structure Form.LatchedIn (f : Form) (u : State) : Prop where
  n : f.recipe = .n ∨ f.recipe = .dn → u.n ≠ none
  e : f.recipe = .e → u.e ≠ none
  w : f.recipe = .w → u.w ≠ none
  d : f.recipe = .d ∨ f.recipe = .dn ∨ f.page = .indexCb → u.d ≠ none

theorem Form.LatchedIn.renderOperand {f : Form} {u : State} (hu : f.LatchedIn u) {o : Operand} (ho : f.latches o = true) :
    renderOperand u o ≠ none := by
  cases o with
  | name t => nofun
  | byte | port => simpa [Machine.renderOperand] using hu.n (by simpa [latches] using ho)
  | target => simpa [Machine.renderOperand] using hu.e (by simpa [latches] using ho)
  | word | mem => simpa [Machine.renderOperand] using hu.w (by simpa [latches] using ho)
  | ind | disp => simpa [Machine.renderOperand] using hu.d (by simpa [latches, or_assoc] using ho)

/-- Operands with values have texts. -/
theorem exists_renderOperands {s : State} {operands : List Operand} (h : ∀ o ∈ operands, renderOperand s o ≠ none) :
    ∃ ts, renderOperands s operands = some ts := by
  induction operands with
  | nil => exact ⟨[], rfl⟩
  | cons o os ih =>
    obtain ⟨t, ht⟩ := Option.ne_none_iff_exists'.mp (h o List.mem_cons_self)
    obtain ⟨ts, hts⟩ := ih fun q hq => h q (List.mem_cons_of_mem o hq)
    exact ⟨t :: ts, by rw [renderOperands, ht, hts]⟩

/-- A row whose latches are written completes (R111, R123). -/
theorem Form.LatchedIn.complete {f : Form} {u : State} (hu : f.LatchedIn u) (hf : f.showsLatched = true) :
    ∃ t, complete f u = .next t := by
  unfold Machine.complete
  split
  · exact ⟨_, rfl⟩
  · rename_i kw operands hb
    obtain ⟨ts, hts⟩ := exists_renderOperands fun o ho => hu.renderOperand (latches_of_body hf hb o ho)
    rw [hts]
    exact ⟨_, rfl⟩

/-- The opcode byte is answered: a row without operands shows at most the displacement of an indexed CB. -/
theorem opcodeRead_answers {f : Form} {s : State} (b : Byte) (hf : f.showsLatched = true)
    (hd : f.page = .indexCb → s.d ≠ none) : ∃ t, opcodeRead f s b = .next t := by
  cases hr : f.recipe with
  | none =>
    have hu : f.LatchedIn (s.opcodeTaken f.page b) := by constructor <;> simp [hr]; exact hd
    obtain ⟨t, ht⟩ := hu.complete hf
    refine ⟨t, ?_⟩
    simp only [opcodeRead, hr]
    exact ht
  | n | d | e | w | dn => exact ⟨_, by simp only [opcodeRead, hr]; rfl⟩

/-- An operand byte is answered: the last one finds the latches of the row written. -/
theorem State.AtOperand.operandRead_answers {s : State} {i : Instr} {f : Form} (h : s.AtOperand i f) (b : Byte)
    (hf : f.showsLatched = true) : ∃ t, operandRead f s b = .next t := by
  have hpage : f.page ≠ .indexCb := by rcases h.page_cases with hp | ⟨hp, -⟩ <;> simp [hp]
  have hmore := h.more
  cases hr : f.recipe with
  | none => simp [hr, recipeMax] at hmore
  | n =>
    have hu : f.LatchedIn (s.latchN b) := by constructor <;> simp [hr, hpage]
    simpa only [operandRead, hr] using hu.complete hf
  | d =>
    have hu : f.LatchedIn (s.latchD b) := by constructor <;> simp [hr]
    simpa only [operandRead, hr] using hu.complete hf
  | e =>
    have hu : f.LatchedIn (s.latchE b) := by constructor <;> simp [hr, hpage]
    simpa only [operandRead, hr] using hu.complete hf
  | dn =>
    by_cases h0 : s.operandCount = 0
    · exact ⟨s.latchD b, by simp only [operandRead, hr, h0, if_true]⟩
    · have h1 : s.operandCount = 1 := by
        rw [hr, recipeMax] at hmore
        omega
      have hu : f.LatchedIn (s.latchN b) := by constructor <;> simp [hr, h.d_iff.mpr ⟨hr, h1⟩]
      simpa only [operandRead, hr, h0, if_false] using hu.complete hf
  | w =>
    have hu : ∀ w, f.LatchedIn { s.accept b with w := some w } := fun w => by constructor <;> simp [hr, hpage]
    simp only [operandRead, hr]
    split
    · exact ⟨_, rfl⟩
    · split
      · split
        · exact ⟨_, rfl⟩
        · exact (hu _).complete hf
      · exact (hu _).complete hf

/-- A row of the prefixes answers every readable byte (R113 to R117). -/
theorem exec_prefixRow_answers {i : Instr} {s : State} {b : Byte} (hpage : (home i).isPage = false)
    (hrun : s.runState = .running) (hb : s.read = some b) : ∃ t, exec i s = .next t := by
  rcases prefixRow_of_not_isPage hpage with ⟨sfx, rfl⟩ | ⟨x, rfl⟩ | rfl | rfl | rfl
  · exact ⟨_, exec_modeSelect sfx hrun hb⟩
  · exact ⟨_, exec_indexPrefix x hrun hb⟩
  · by_cases hp : s.phase = .afterIndexCB
    · exact ⟨_, exec_cbPrefix_afterIndexCB hrun hb hp⟩
    · exact ⟨_, exec_cbPrefix hrun hb hp⟩
  · exact ⟨_, exec_edPrefix hrun hb⟩
  · exact ⟨_, exec_prefixOnly hrun hb⟩

/-- The row of a byte answers it: every byte of every context has an outcome (R123, R124). -/
theorem State.AtByte.exec_answers {s : State} {i : Instr} {b : Byte} (h : s.AtByte i b) (hrun : s.runState = .running) :
    ∃ t, exec i s = .next t := by
  rcases exists_form_or_not_isPage (nextInstr_wellFormed h.row) s.params.cbY7Mnemonic with ⟨f, hf⟩ | hpage
  · have hshows := formOf_showsLatched hf
    rw [exec_eq_runForm hf, runForm, withRead_some _ hrun h.byte]
    split
    · rename_i hp
      exact (h.operand hf hp).operandRead_answers b hshows
    · rename_i hp
      obtain ⟨hsel, hc⟩ := h.selector hf hp
      obtain ⟨-, hd⟩ := hsel.atOpcode hrun (Form.fits_iff.mp (classify_form_fits (hc ▸ hf))).1
      exact opcodeRead_answers b hshows hd.mpr
  · exact exec_prefixRow_answers hpage hrun h.byte

/-- A step of a running block that meets the invariant answers a next state. -/
theorem State.Inv.step_answers {s : State} (hs : s.Inv) (hin : s.inbox = []) (hrun : s.runState = .running) :
    ∃ t, step s = .next t := by
  have hgoes : s.settled.runState = .running := by simpa using hrun
  rcases hs.step_cases hin hrun with ⟨-, hstep⟩ | ⟨i, hi, hstep⟩
  · exact ⟨_, hstep⟩
  · rw [hstep]
    cases hb : s.settled.read with
    | none => exact ⟨_, exec_unreadable (nextInstr_wellFormed hi) hgoes hb⟩
    | some b => exact ((settled_inv hs).atByte hgoes s.settled_phase_ne_complete hi hb).exec_answers hgoes

/-- Settles O47: a request is served or refused, and a read of a running block is answered. -/
theorem stepNeverStopsARun : Obligations.StepNeverStopsARun := by
  intro s hs
  have hnext : s.inbox = [] → ∃ t, step s = .next t := fun hin => by
    by_cases hrun : s.runState = .running
    · exact hs.step_answers hin hrun
    · exact ⟨s, step_of_inactive hin hrun⟩
  refine ⟨fun f => ?_, hnext⟩
  cases hin : s.inbox with
  | nil =>
    obtain ⟨t, ht⟩ := hnext hin
    rw [ht]
    nofun
  | cons ev rest =>
    rw [step_request hin]
    exact serveHost_ne_fault ev _ f

-- A short word

/-- The keyword of a row with operands is no parameter: only rows without operands name one (R358). -/
theorem formOf_eq_of_operands {k : CbY7Mnemonic} {i : Instr} {f : Form} (hf : formOf k i = some f)
    (hr : f.recipe ≠ .none) (k' : CbY7Mnemonic) : formOf k' i = some f := by
  cases i
  case srlR | srlIxd | srlIyd =>
    cases hf
    exact absurd rfl hr
  all_goals exact hf

/-- Every row that fetches a word completes with it (R76, R119). -/
theorem completesW_of_recipe {k : CbY7Mnemonic} {i : Instr} {f : Form} (hf : formOf k i = some f) (hr : f.recipe = .w) :
    ∃ kw ops, CompletesW f.page i f.rule kw ops := by
  have hpage : f.page = .base ∨ f.page = .ed := by
    obtain ⟨hp, hword, -⟩ := Form.fits_iff.mp (formOf_fits hf)
    simpa [hp, hr] using hword
  obtain ⟨⟨kw, operands⟩, hbody⟩ := Option.ne_none_iff_exists'.mp fun hb => by
    simpa [hr] using recipe_of_body_none hf hb
  have hcb : f.page ≠ .indexCb := by rcases hpage with hp | hp <;> simp [hp]
  have hlatched := Form.latches_of_body (formOf_showsLatched hf) hbody
  obtain ⟨ops, hops⟩ := renderOperands_of_renderedBy fun o ho =>
    Operand.renderedBy_of_w (Form.shownBy_w_of_latches hr hcb (hlatched o ho))
  have hform : f = fullForm f.rule f.page .w kw operands := by rw [fullForm, ← hr, ← hbody]
  exact ⟨kw, ops, completesW_of operands hpage
    (fun k' => hform ▸ formOf_eq_of_operands hf (by simp [hr]) k') hops⟩

/-- After the opcode and two bytes of a short word the row is complete, the segment byte being no read (R76, R119). -/
theorem execTimes_shortWord {i : Instr} {page : Page} {rule : Nat} {kw : String} {ops : Addr → List String}
    (h : CompletesW page i rule kw ops) {s : State} {b lo mid : Byte} (ha : AtOpcode s page) (hshort : ¬ LongWord s)
    (hb : Holds s s.cursor [b, lo, mid]) : ∃ r, execTimes 3 i s = .next (completedBy s 3 r) := by
  obtain ⟨t₁, t₂, hopcode, hlo, hmid⟩ := (h s b lo mid ha).2 hshort hb
  exact ⟨_, calc execTimes 3 i s = execTimes 2 i t₁ := execTimes_succ_of_next 2 hopcode
    _ = execTimes 1 i t₂ := execTimes_succ_of_next 1 hlo
    _ = _ := execTimes_succ_of_next 0 hmid⟩

/-- A completed record leaves a run that goes on or is done. -/
theorem completedBy_runState_ne_faulted (s : State) (k : Nat) (r : DecodedInstruction) :
    (completedBy s k r).runState ≠ .faulted := by
  simp only [completedBy]
  split <;> nofun

/-- Settles O37: every row is one read; a short word's row completes at its second byte. -/
theorem everyRowFaultsOnAnUnreadableByte : Obligations.EveryRowFaultsOnAnUnreadableByte := by
  refine ⟨fun i hw => faults_of_exec fun s => exec_unreadable hw, fun a => rfl, ?_⟩
  intro s i f b lo mid _ hf hr ha hshort hb _
  obtain ⟨kw, ops, hw⟩ := completesW_of_recipe hf hr
  obtain ⟨r, ht⟩ := execTimes_shortWord hw ha hshort hb
  exact ⟨_, ht, rfl, rfl, completedBy_runState_ne_faulted s 3 r⟩

end Sys2Proof.Machine

namespace Sys2Proof.Machine

open Sys2Proof.Claims

-- An instruction in progress, read to its end

/-- The state `t` is `k` reads of `s` later, and they complete the instruction in progress with record `r`, ready and paid from
the budget; the read that ends a PrefixOnly instruction accepts no byte (R113, R140). -/
structure Finishes (s : State) (k : Nat) (r : DecodedInstruction) (t : State) : Prop where
  phase_eq : t.phase = .complete
  output : t.output = some r
  emitted : t.emitted = s.emitted ++ [r]
  startAddress : r.startAddress = s.startAddress
  remaining : t.remaining = s.remaining - r.byteLength
  reads : s.byteLength + k = r.byteLength + if r.kind = .prefixOnly then 1 else 0

/-- The stream fault has ended the run, with no record made of the instruction in progress (R602). -/
structure BreaksOff (s t : State) : Prop where
  runState : t.runState = .faulted
  emitted : t.emitted = s.emitted
  remaining : t.remaining = s.remaining

/-- The instruction in progress in `s` ends with the `k`th read, which leaves `t`. -/
def Ends (s : State) (k : Nat) (t : State) : Prop := (∃ r, Finishes s k r t) ∨ BreaksOff s t

theorem Accepted.byteLength {s u : State} {b : Byte} (h : Accepted s b u) : u.byteLength = s.byteLength + 1 := by
  simp [State.byteLength, h.rawBytes]

/-- Completing a row ends the instruction with the byte that was read last. -/
theorem Accepted.finishes_finish {s u : State} {b : Byte} (h : Accepted s b u) {kind : Kind} (hk : kind ≠ .prefixOnly)
    (form : Option Nat) (text : String) : Finishes s 1 (u.record kind form text) (u.finish kind form text) where
  phase_eq := rfl
  output := rfl
  emitted := by rw [State.finish_emitted, h.emitted]
  startAddress := h.startAddress
  remaining := by rw [State.finish_remaining, h.remaining]; rfl
  reads := by simp [State.record, hk, h.byteLength]

/-- The PrefixOnly ending ends the instruction with a byte that it does not accept (R113). -/
theorem finishes_prefixOnly (s : State) : Finishes s 1 (s.record .prefixOnly none "") (s.finish .prefixOnly none "") :=
  ⟨rfl, rfl, rfl, rfl, rfl, rfl⟩

/-- A byte read ends the instruction with a record, or is accepted and leaves it open. -/
theorem ReadsTo.finishes_or_open {s t : State} {b : Byte} {i : Instr} (hp : s.phase ≠ .complete) (h : ReadsTo s b i t) :
    (∃ r, Finishes s 1 r t) ∨ Accepted s b t ∧ t.phase ≠ .complete := by
  cases h with
  | goesOn hu => exact .inr ⟨hu.accepted, (hu.latches hp).1⟩
  | completes _ hu hc =>
    left
    rcases complete_next hc with ⟨-, rfl⟩ | ⟨_, _, _, -, -, rfl⟩
    · exact ⟨_, hu.accepted.finishes_finish (by decide) _ _⟩
    · exact ⟨_, hu.accepted.finishes_finish (by decide) _ _⟩
  | endsPrefixOnly => exact .inl ⟨_, finishes_prefixOnly s⟩

/-- An end seen from one byte earlier. -/
theorem Accepted.ends {s u t : State} {b : Byte} {k : Nat} (h : Accepted s b u) (hend : Ends u k t) : Ends s (k + 1) t := by
  rcases hend with ⟨r, hr⟩ | hfault
  · refine .inl ⟨r, { hr with
      emitted := h.emitted ▸ hr.emitted
      startAddress := h.startAddress ▸ hr.startAddress
      remaining := h.remaining ▸ hr.remaining
      reads := ?_ }⟩
    rw [← hr.reads, h.byteLength, Nat.add_assoc, Nat.add_comm 1]
  · exact .inr { hfault with
      emitted := hfault.emitted.trans h.emitted
      remaining := hfault.remaining.trans h.remaining }

/-- An open instruction has at most five bytes (R121, R122). -/
theorem State.Shape.byteLength_lt {s : State} (h : s.Shape) (hp : s.phase ≠ .complete) : s.byteLength < 6 := by
  by_cases hop : s.phase = .operands
  · have hshape := h
    simp only [State.Shape, hop] at hshape
    obtain ⟨p, o, -, hpage, ho, -⟩ := hshape
    obtain ⟨f, hat⟩ := h.atOperand hop hpage ho
    exact hat.byteLength_lt
  · by_cases hcb : s.phase = .afterIndexCB ∧ s.d = none
    · obtain ⟨hcb, hd⟩ := hcb
      have hpc := prefixCount_le s
      simp only [State.Shape, hcb, hd] at h
      obtain ⟨-, hlen⟩ := h
      simp only [Option.isSome_none, Bool.toNat_false] at hlen
      omega
    · have hle := (h.atSelector hop hp fun hi hd => hcb ⟨hi, hd⟩).byteLength_le
      omega

/-- A running block with no request waiting, in the middle of an instruction or at its start. -/
structure State.Open (s : State) : Prop where
  inv : s.Inv
  inbox : s.inbox = []
  running : s.runState = .running
  not_complete : s.phase ≠ .complete

theorem State.Open.byteLength_lt {s : State} (h : s.Open) : s.byteLength < 6 :=
  (h.inv.running_shape h.running).byteLength_lt h.not_complete

/-- A step ends the instruction, or accepts a byte of it. -/
theorem State.Open.step_cases {s t : State} (h : s.Open) (hstep : step s = .next t) :
    Ends s 1 t ∨ ∃ b, Accepted s b t ∧ t.Open := by
  have hreads := step_reads h.inbox hstep
  rw [State.settled_eq_self h.not_complete] at hreads
  rcases hreads with ⟨hidle, -⟩ | ⟨-, ⟨-, rfl⟩ | ⟨i, b, -, -, hread⟩⟩
  · exact absurd h.running hidle
  · exact .inl (.inr ⟨rfl, rfl, rfl⟩)
  · rcases hread.finishes_or_open h.not_complete with hr | ⟨hacc, hopen⟩
    · exact .inl (.inl hr)
    · exact .inr ⟨b, hacc, stepKeepsTheInvariant s t h.inv hstep, hacc.inbox.trans h.inbox,
        hacc.runState.trans h.running, hopen⟩

-- Several steps

theorem stepTimes_succ_of_next {s t : State} (k : Nat) (h : step s = .next t) : stepTimes (k + 1) s = stepTimes k t := by
  rw [stepTimes, h]

theorem stepTimes_one_of_next {s t : State} (h : step s = .next t) : stepTimes 1 s = .next t :=
  stepTimes_succ_of_next 0 h

/-- The first of several steps. -/
theorem stepTimes_succ_next {k : Nat} {s t : State} (h : stepTimes (k + 1) s = .next t) :
    ∃ u, step s = .next u ∧ stepTimes k u = .next t := by
  rw [stepTimes] at h
  cases hstep : step s with
  | next u =>
    rw [hstep] at h
    exact ⟨u, rfl, h⟩
  | fault | refused =>
    rw [hstep] at h
    cases h

theorem stepTimes_add_of_next {k : Nat} {s t : State} (j : Nat) (h : stepTimes k s = .next t) :
    stepTimes (k + j) s = stepTimes j t := by
  induction k generalizing s with
  | zero =>
    cases h
    rw [Nat.zero_add]
  | succ k ih =>
    obtain ⟨u, hstep, hu⟩ := stepTimes_succ_next h
    rw [Nat.succ_add, stepTimes_succ_of_next _ hstep, ih hu]

/-- What every step keeps, several steps keep. -/
theorem stepTimes_keeps {P : State → Prop} (hP : ∀ s t, P s → step s = .next t → P t) {k : Nat} {s t : State} (hs : P s)
    (h : stepTimes k s = .next t) : P t := by
  induction k generalizing s with
  | zero =>
    cases h
    exact hs
  | succ k ih =>
    obtain ⟨u, hstep, hu⟩ := stepTimes_succ_next h
    exact ih (hP s u hs hstep) hu

/-- Reading on ends the instruction while its bytes and the reads still made are at most six: each read accepts one of the
five bytes an open instruction can have, or is the last. -/
theorem State.Open.ends {s : State} (h : s.Open) :
    ∃ k t, 1 ≤ k ∧ s.byteLength + k ≤ 6 ∧ stepTimes k s = .next t ∧ Ends s k t := by
  have hlt := h.byteLength_lt
  obtain ⟨u, hstep⟩ := h.inv.step_answers h.inbox h.running
  rcases h.step_cases hstep with hend | ⟨b, hacc, hopen⟩
  · exact ⟨1, u, le_rfl, hlt, stepTimes_one_of_next hstep, hend⟩
  · have hlen := hacc.byteLength
    obtain ⟨k, t, -, hle, hsteps, hend⟩ := hopen.ends
    exact ⟨k + 1, t, by omega, by omega, (stepTimes_succ_of_next k hstep).trans hsteps, hacc.ends hend⟩
termination_by 6 - s.byteLength

-- The start of an instruction

/-- The instruction start is part of the step that makes the first read (assumption log 10). -/
theorem step_settled {s : State} (hin : s.inbox = []) (hrun : s.runState = .running) : step s.settled = step s := by
  rw [step_of_running hin hrun, step_of_running (s := s.settled) (by simpa using hin) (by simpa using hrun),
    State.settled_eq_self s.settled_phase_ne_complete]

theorem stepTimes_settled {s : State} {k : Nat} (hin : s.inbox = []) (hrun : s.runState = .running) (hk : 1 ≤ k) :
    stepTimes k s.settled = stepTimes k s := by
  obtain ⟨j, rfl⟩ := Nat.exists_eq_add_of_le' hk
  rw [stepTimes, stepTimes, step_settled hin hrun]

/-- In front of an instruction nothing of it is accepted, and it starts at the cursor (R702). -/
theorem State.Inv.settled_at_start {s : State} (hs : s.Inv) (hrun : s.runState = .running)
    (hp : s.phase = .noPrefix ∨ s.phase = .complete) : s.settled.byteLength = 0 ∧ s.settled.startAddress = s.cursor := by
  rcases hp with hp | hp
  · rw [State.settled_eq_self (by simp [hp])]
    have hshape := hs.running_shape hrun
    simp only [State.Shape, hp] at hshape
    obtain ⟨hraw, -⟩ := hshape
    have hlen : s.byteLength = 0 := by simp [State.byteLength, hraw]
    exact ⟨hlen, by simp [hs.cursor_eq, hlen]⟩
  · rw [State.settled_eq_beginInstr hp]
    exact ⟨rfl, rfl⟩

/-- Settles O49: in front of an instruction no byte is accepted, so it ends within six reads. -/
theorem instructionTakesAtMostSixReads : Obligations.InstructionTakesAtMostSixReads := by
  intro s hs hin hrun hp
  obtain ⟨hlen, hstart⟩ := hs.settled_at_start hrun hp
  have hopen : s.settled.Open :=
    ⟨settled_inv hs, by simpa using hin, by simpa using hrun, s.settled_phase_ne_complete⟩
  obtain ⟨k, t, hk, hle, hsteps, hend⟩ := hopen.ends
  refine ⟨k, t, hk, by omega, (stepTimes_settled hin hrun hk).symm.trans hsteps, ?_⟩
  rcases hend with ⟨r, hr⟩ | hfault
  · refine .inl ⟨r, hr.phase_eq, hr.output, ?_, hr.startAddress.trans hstart, ?_, ?_⟩
    · simpa using hr.emitted
    · simpa using hr.remaining
    · simpa [hlen] using hr.reads
  · exact .inr ⟨hfault.runState, by simpa using hfault.emitted, by simpa using hfault.remaining⟩

-- A run to its end

/-- A block that has been started and has no request waiting. -/
structure State.Started (s : State) : Prop where
  inv : s.Inv
  inbox : s.inbox = []
  not_idle : s.runState ≠ .idle

/-- No step makes the block idle again (10_state.md R42). -/
theorem step_ne_idle {s t : State} (hs : s.runState ≠ .idle) (h : step s = .next t) : t.runState ≠ .idle := by
  rcases runStateTransitions s t h with ⟨heq, -⟩ | ⟨-, -, hrun | hrun, -⟩ | ⟨-, hrun, -⟩ | ⟨-, hrun, -⟩
  · rwa [heq]
  all_goals simp [hrun]

theorem State.Started.step {s t : State} (hs : s.Started) (h : Machine.step s = .next t) : t.Started := by
  obtain ⟨-, -, -, hin, -⟩ := frameOfAStep s t hs.inbox h
  exact ⟨stepKeepsTheInvariant s t hs.inv h, hin, step_ne_idle hs.not_idle h⟩

theorem State.Started.stepTimes {s t : State} {k : Nat} (hs : s.Started) (h : Machine.stepTimes k s = .next t) :
    t.Started :=
  stepTimes_keeps (fun _ _ => State.Started.step) hs h

/-- A started block that is not running has ended its run. -/
theorem State.Started.ended {s : State} (hs : s.Started) (hrun : s.runState ≠ .running) :
    s.runState = .done ∨ s.runState = .faulted := by
  cases h : s.runState with
  | idle => exact absurd h hs.not_idle
  | running => exact absurd h hrun
  | done => exact .inl rfl
  | faulted => exact .inr rfl

/-- In front of an instruction a run ends: each instruction takes at most six reads and pays at least one byte. -/
theorem State.Started.run_ends {s : State} (hs : s.Started) (hrun : s.runState = .running)
    (hp : s.phase = .noPrefix ∨ s.phase = .complete) :
    ∃ (k : Nat) (t : State), (k : Int) ≤ 6 * s.remaining ∧ Machine.stepTimes k s = .next t ∧
      (t.runState = .done ∨ t.runState = .faulted) := by
  have hpos := hs.inv.running_budget hrun
  obtain ⟨k, t, -, hk, hsteps, hend⟩ := instructionTakesAtMostSixReads s hs.inv hs.inbox hrun hp
  have ht := hs.stepTimes hsteps
  by_cases hgoes : t.runState = .running
  · rcases hend with ⟨r, hcomplete, hout, -, -, hrem, -⟩ | ⟨hfault, -⟩
    · have hpaid := (ht.inv.output_ok hout).length_bounds.1
      obtain ⟨j, u, hj, hsteps', hended⟩ := ht.run_ends hgoes (.inr hcomplete)
      exact ⟨k + j, u, by omega, (stepTimes_add_of_next j hsteps).trans hsteps', hended⟩
    · cases hfault.symm.trans hgoes
  · exact ⟨k, t, by omega, hsteps, ht.ended hgoes⟩
termination_by s.remaining.toNat

/-- Settles O50: a running block has been started. -/
theorem everyRunTerminates : Obligations.EveryRunTerminates := fun _ hs hin hrun hp =>
  State.Started.run_ends ⟨hs, hin, by simp [hrun]⟩ hrun hp

-- Power-on and the two reset points

/-- The statements' instruction start is the model's. -/
theorem beginInstr_eq_started (s : State) : s.beginInstr = started s := rfl

/-- Settles O31: the instruction start is part of the step, and what it resets is the statement's. -/
theorem instructionStartResets : Obligations.InstructionStartResets := by
  intro s hin hrun hp
  refine ⟨?_, rfl, rfl, rfl, rfl, rfl, rfl, rfl⟩
  rw [← beginInstr_eq_started, ← State.settled_eq_beginInstr hp, step_settled hin hrun]

/-- The width flags (00_scope.md R8). -/
theorem widthOfFlag_eq_some_iff {flag : Option Nat} {width : ExecWidth} :
    widthOfFlag flag = some width ↔
      flag = some 0 ∧ width = .z80Mode ∨ (flag = some 1 ∨ flag = none) ∧ width = .adlMode := by
  unfold widthOfFlag
  split <;> simp_all [eq_comm]

/-- A start outside a run, with inputs of their types, is served (R701, R703). -/
theorem serveHost_start {s : State} {start : Nat} {count : Int} {flag : Option Nat} {width : ExecWidth}
    (hrun : s.runState ≠ .running) (hstart : start < 2 ^ 24) (hcount : 0 ≤ count) (hflag : widthOfFlag flag = some width) :
    serveHost (.start start count flag) s = .next (s.startRun width (BitVec.ofNat 24 start) count) := by
  rw [serveHost, if_neg hrun, if_pos ⟨hstart, hcount⟩, hflag]

/-- A run start keeps the stream, the parameters and the later requests, and nothing else (R701, R702). -/
theorem startRun_congr {s u : State} (hstream : s.stream = u.stream) (hparams : s.params = u.params)
    (hinbox : s.inbox = u.inbox) (width : ExecWidth) (start : Addr) (count : Int) :
    s.startRun width start count = u.startRun width start count := by
  simp only [State.startRun, State.beginInstr, hstream, hparams, hinbox]

/-- The run start, as the statements write it. -/
theorem startRun_eq_started (s : State) (width : ExecWidth) (start : Addr) {count : Int} (hcount : 0 ≤ count) :
    s.startRun width start count = started { s with
      execWidth := width, cursor := start, remaining := count, fault := .none
      runState := if count = 0 then .done else .running, emitted := [] } := by
  have hrun : (if count > 0 then RunState.running else .done) = if count = 0 then .done else .running := by
    by_cases h : count = 0
    · simp [h]
    · rw [if_pos (by omega), if_neg h]
  rw [State.startRun, hrun, beginInstr_eq_started]

/-- A run starts with the step that serves a start request. -/
theorem step_start_next {s t : State} {a : Nat} {c : Int} {f : Option Nat} {rest : List HostEvent}
    (hin : s.inbox = .start a c f :: rest) (h : step s = .next t) :
    ∃ width, widthOfFlag f = some width ∧
      t = State.startRun { s with inbox := rest } width (BitVec.ofNat 24 a) c := by
  rw [step_request hin] at h
  obtain ⟨-, ⟨_, _, _, width, hev, -, -, hflag, rfl⟩ | ⟨_, hev, -⟩ | ⟨_, _, hev, -⟩⟩ := serveHost_next h
  · cases hev
    exact ⟨width, hflag, rfl⟩
  · cases hev
  · cases hev

/-- A step of a run serves no request. -/
theorem inbox_of_running_step {s t : State} (hrun : s.runState = .running) (h : step s = .next t) : s.inbox = [] := by
  cases hin : s.inbox with
  | nil => rfl
  | cons ev rest =>
    rw [step_request hin] at h
    exact absurd hrun (serveHost_next h).1

/-- Settles O32: a start is served by the run start, which keeps the host's inputs only, and a run serves no request. -/
theorem runStartSetsTheRun : Obligations.RunStartSetsTheRun := by
  refine ⟨?_, ?_, ?_⟩
  · intro s rest start count flag width hrun hin hstart hcount hflag
    rw [step_request hin]
    exact (serveHost_start (s := { s with inbox := rest }) hrun hstart hcount (widthOfFlag_eq_some_iff.mpr hflag)).trans
      (congrArg _ (startRun_eq_started _ _ _ hcount))
  · rintro s₁ s₂ t₁ t₂ ev hin₁ hin₂ ⟨a, c, f, rfl⟩ hstream hparams h₁ h₂
    obtain ⟨width, hflag, rfl⟩ := step_start_next hin₁ h₁
    obtain ⟨width', hflag', rfl⟩ := step_start_next hin₂ h₂
    obtain rfl : width = width' := Option.some.inj (hflag.symm.trans hflag')
    exact startRun_congr (s := { s₁ with inbox := [] }) (u := { s₂ with inbox := [] }) hstream hparams rfl _ _ _
  · intro s t hrun h
    obtain ⟨-, -, hwidth, -⟩ := frameOfAStep s t (inbox_of_running_step hrun h) h
    exact hwidth

/-- Settles O33: in the idle state a host's read finds `runState` alone, and no row and no step reads the stream. -/
theorem powerOnHoldsNoValue : Obligations.PowerOnHoldsNoValue := by
  refine ⟨rfl, fun s hidle => ?_⟩
  have hrun : s.runState ≠ .running := by simp [hidle]
  refine ⟨?runState, ?fault, ?cursor, ?remaining, fun i hw => exec_inactive hw hrun,
    fun hin => step_of_inactive hin hrun⟩
  all_goals simp [hostRead, hidle]

-- Requests that are refused

/-- A width flag from 2 on names no width (decision D32). -/
theorem widthOfFlag_of_two_le {n : Nat} (h : 2 ≤ n) : widthOfFlag (some n) = none := by
  obtain ⟨m, rfl⟩ := Nat.exists_eq_add_of_le' h
  rfl

/-- A start outside a run, with an input outside its type, is refused (I5). -/
theorem serveHost_start_refused {s : State} {a : Nat} {c : Int} {f : Option Nat} (hrun : s.runState ≠ .running)
    (h : 2 ^ 24 ≤ a ∨ c < 0 ∨ ∃ n, f = some n ∧ 2 ≤ n) :
    serveHost (.start a c f) s = .refused .inputOutOfType := by
  rw [serveHost, if_neg hrun]
  split
  · rename_i hin
    obtain ⟨ha, hc⟩ := hin
    rcases h with h | h | ⟨n, rfl, hn⟩
    · omega
    · omega
    · rw [widthOfFlag_of_two_le hn]
  · rfl

/-- Settles O36: during a run by the run state, outside one by the input that is outside its type. -/
theorem hostRequestsRefused : Obligations.HostRequestsRefused := by
  refine fun s rest => ⟨fun hrun => ⟨fun a c f hin => ?start, fun p hin => ?params, fun a b hin => ?stream⟩,
    fun hrun a c f hin h => ?input⟩
  all_goals rw [step_request hin]
  case input => exact serveHost_start_refused hrun h
  all_goals exact if_pos hrun

end Sys2Proof.Machine
